-- ==== Sys2Proof/Word.lean ====
section
/-! DEFINITION. Sys2Proof/Word.lean: the word types of the unit (rules R8, R21, R22, R60, R61).

A scalar is the 64-bit raw value of rule R8 (`S64`); the integer it stands for in the rules' pseudocode is
`BitVec.toInt`.  A register number and a pair number are not words: no rule adds, shifts or masks them. -/

namespace Sys2Proof

/-- `S64`, the raw value of a Q31.32 scalar (rule R8); its integer is `toInt`. -/
abbrev Scalar := BitVec 64

/-- The 32-bit command word (rule R60). -/
abbrev CmdWord := BitVec 32

/-- The number of a scalar register, `f0` to `f15` (rule R21). -/
abbrev Reg := Fin 16

/-- The number `k` of an interval pair `i<k>`, `i0` to `i7` (rule R22). -/
abbrev Pair := Fin 8

end Sys2Proof
end

