-- ==== Sys2Proof/Syntax.lean ====
section
/-! DEFINITION. Sys2Proof/Syntax.lean: the 63 commands (rule R64), one constructor per row of spec/opcode_table.json, and
the thirteen operand formats (rule R61).

A field a format marks `s` is a `Reg`, one it marks `p` is a `Pair` (the even register number it is encoded by is the
decoder's business, rule R62).  The 64-bit `wdata` of `WRR` and `WRI` is not in the command word: it comes with the command
(rules R60, R63) and stands in the machine's state. -/

namespace Sys2Proof

/-- The thirteen formats of rule R61, under its names. -/
inductive Format where
  | z | d | a | dc | da | dab | ab | pss | xps | xpp | ppp | spp | pps
  deriving DecidableEq, Repr

/-- A command of the set `FGM-Q3132 v1` (rules R1, R64), operands in assembly order, destination first (rule R68). -/
inductive Instr where
  -- 40_move_convert.md: moves, conversions, status
  /-- `WRR`, op `0x01`, format `D`, rule R80 -/
  | wrr (rd : Reg)
  /-- `RDR`, op `0x02`, format `A`, rule R81 -/
  | rdr (ra : Reg)
  /-- `WRI`, op `0x03`, format `D`, rule R82 -/
  | wri (rd : Reg)
  /-- `RDI`, op `0x04`, format `A`, rule R83 -/
  | rdi (ra : Reg)
  /-- `LDC`, op `0x05`, format `DC`, rule R84 -/
  | ldc (rd : Reg) (k : BitVec 8)
  /-- `MOV`, op `0x06`, format `DA`, rule R85 -/
  | mov (rd ra : Reg)
  /-- `RDSTAT`, op `0x08`, format `Z`, rule R86 -/
  | rdstat
  /-- `CLRERR`, op `0x09`, format `Z`, rule R87 -/
  | clrerr
  -- 41_arithmetic.md: saturating and fast arithmetic
  /-- `ADD`, op `0x10`, format `DAB`, rule R100 -/
  | add (rd ra rb : Reg)
  /-- `SUB`, op `0x11`, format `DAB`, rule R101 -/
  | sub (rd ra rb : Reg)
  /-- `MUL`, op `0x12`, format `DAB`, rule R102 -/
  | mul (rd ra rb : Reg)
  /-- `DIV`, op `0x13`, format `DAB`, rule R103 -/
  | div (rd ra rb : Reg)
  /-- `MOD`, op `0x14`, format `DAB`, rule R104 -/
  | mod (rd ra rb : Reg)
  /-- `NEG`, op `0x15`, format `DA`, rule R105 -/
  | neg (rd ra : Reg)
  /-- `ABS`, op `0x16`, format `DA`, rule R106 -/
  | abs (rd ra : Reg)
  /-- `SIGN`, op `0x17`, format `DA`, rule R107 -/
  | sign (rd ra : Reg)
  /-- `FADD`, op `0x18`, format `DAB`, rule R108 -/
  | fadd (rd ra rb : Reg)
  /-- `FSUB`, op `0x19`, format `DAB`, rule R109 -/
  | fsub (rd ra rb : Reg)
  /-- `FMUL`, op `0x1A`, format `DAB`, rule R110 -/
  | fmul (rd ra rb : Reg)
  /-- `FMOD`, op `0x1C`, format `DAB`, rule R111 -/
  | fmod (rd ra rb : Reg)
  /-- `FABS`, op `0x1E`, format `DA`, rule R112 -/
  | fabs (rd ra : Reg)
  -- 42_round_compare.md: rounding, classification, comparison
  /-- `FLOOR`, op `0x20`, format `DA`, rule R130 -/
  | floor (rd ra : Reg)
  /-- `CEIL`, op `0x21`, format `DA`, rule R131 -/
  | ceil (rd ra : Reg)
  /-- `ROUND`, op `0x22`, format `DA`, rule R132 -/
  | round (rd ra : Reg)
  /-- `FRAC`, op `0x23`, format `DA`, rule R133 -/
  | frac (rd ra : Reg)
  /-- `HASFRAC`, op `0x24`, format `A`, rule R134 -/
  | hasfrac (ra : Reg)
  /-- `CMPEQ`, op `0x28`, format `AB`, rule R135 -/
  | cmpeq (ra rb : Reg)
  /-- `CMPNE`, op `0x29`, format `AB`, rule R136 -/
  | cmpne (ra rb : Reg)
  /-- `CMPLT`, op `0x2A`, format `AB`, rule R137 -/
  | cmplt (ra rb : Reg)
  /-- `CMPGT`, op `0x2B`, format `AB`, rule R138 -/
  | cmpgt (ra rb : Reg)
  /-- `CMPLE`, op `0x2C`, format `AB`, rule R139 -/
  | cmple (ra rb : Reg)
  /-- `CMPGE`, op `0x2D`, format `AB`, rule R140 -/
  | cmpge (ra rb : Reg)
  -- 43_transcendental.md: root, logarithm, power
  /-- `SQRT`, op `0x30`, format `DA`, rule R150 -/
  | sqrt (rd ra : Reg)
  /-- `LOG2`, op `0x31`, format `DA`, rule R151 -/
  | log2 (rd ra : Reg)
  /-- `LN`, op `0x32`, format `DA`, rule R152 -/
  | ln (rd ra : Reg)
  /-- `POW2`, op `0x33`, format `DA`, rule R153 -/
  | pow2 (rd ra : Reg)
  /-- `POW`, op `0x34`, format `DAB`, rule R154 -/
  | pow (rd ra rb : Reg)
  -- 44_trig.md: angles and trigonometry
  /-- `SIN`, op `0x40`, format `DA`, rule R174 -/
  | sin (rd ra : Reg)
  /-- `COS`, op `0x41`, format `DA`, rule R175 -/
  | cos (rd ra : Reg)
  /-- `TAN`, op `0x42`, format `DA`, rule R176 -/
  | tan (rd ra : Reg)
  /-- `ATAN`, op `0x43`, format `DA`, rule R177 -/
  | atan (rd ra : Reg)
  /-- `ACOS`, op `0x44`, format `DA`, rule R178 -/
  | acos (rd ra : Reg)
  /-- `ATAN2`, op `0x45`, format `DAB`, rule R179 -/
  | atan2 (rd ra rb : Reg)
  /-- `TODEG`, op `0x46`, format `DA`, rule R171 -/
  | todeg (rd ra : Reg)
  /-- `TORAD`, op `0x47`, format `DA`, rule R172 -/
  | torad (rd ra : Reg)
  -- 45_interval.md: intervals
  /-- `ICREATE`, op `0x50`, format `PSS`, rule R202 -/
  | icreate (id : Pair) (ra rb : Reg)
  /-- `ICREATEU`, op `0x51`, format `PSS`, rule R203 -/
  | icreateu (id : Pair) (ra rb : Reg)
  /-- `IOVLV`, op `0x52`, format `XPS`, rule R204 -/
  | iovlv (ia : Pair) (rb : Reg)
  /-- `IOVL`, op `0x53`, format `XPP`, rule R205 -/
  | iovl (ia ib : Pair)
  /-- `IINT`, op `0x54`, format `PPP`, rule R206 -/
  | iint (id ia ib : Pair)
  /-- `IUNION`, op `0x55`, format `PPP`, rule R207 -/
  | iunion (id ia ib : Pair)
  /-- `IMTV`, op `0x56`, format `SPP`, rule R208 -/
  | imtv (rd : Reg) (ia ib : Pair)
  /-- `IEQ`, op `0x57`, format `XPP`, rule R209 -/
  | ieq (ia ib : Pair)
  /-- `ISETLO`, op `0x58`, format `PPS`, rule R210 -/
  | isetlo (id ia : Pair) (rb : Reg)
  /-- `ISETLOU`, op `0x59`, format `PPS`, rule R211 -/
  | isetlou (id ia : Pair) (rb : Reg)
  /-- `ISETHI`, op `0x5A`, format `PPS`, rule R212 -/
  | isethi (id ia : Pair) (rb : Reg)
  /-- `ISETHIU`, op `0x5B`, format `PPS`, rule R213 -/
  | isethiu (id ia : Pair) (rb : Reg)
  /-- `IADDLO`, op `0x5C`, format `PPS`, rule R214 -/
  | iaddlo (id ia : Pair) (rb : Reg)
  /-- `IADDLOU`, op `0x5D`, format `PPS`, rule R215 -/
  | iaddlou (id ia : Pair) (rb : Reg)
  /-- `IADDHI`, op `0x5E`, format `PPS`, rule R216 -/
  | iaddhi (id ia : Pair) (rb : Reg)
  /-- `IADDHIU`, op `0x5F`, format `PPS`, rule R217 -/
  | iaddhiu (id ia : Pair) (rb : Reg)
  /-- `ITRANS`, op `0x60`, format `PPS`, rule R218 -/
  | itrans (id ia : Pair) (rb : Reg)
  /-- `ITRANSU`, op `0x61`, format `PPS`, rule R219 -/
  | itransu (id ia : Pair) (rb : Reg)
  deriving DecidableEq, Repr

end Sys2Proof
end

