-- ==== Sys2Proof/WellFormed.lean ====
section
/-! DEFINITION. Sys2Proof/WellFormed.lean: which terms of `Instr` are commands.

The types of the operands already say most of rule R65 (a register number is 0 to 15, a pair is named by its number, a field
a format does not use does not exist).  What is left is the one condition rule R61 adds to a row of the table: the constant
index of `LDC` is at most 20. -/

namespace Sys2Proof

/-- The number of words of the constant ROM (rules R29, R61): the index of `LDC` is 0 to 20. -/
def constCount : Nat := 21

/-- Rule R61: "for `LDC` there is the further condition `imm8 ≤ 20`"; every other term is a command as it stands. -/
def Instr.wellFormed : Instr → Bool
  | .wrr _ => true
  | .rdr _ => true
  | .wri _ => true
  | .rdi _ => true
  | .ldc _ k => decide (k.toNat < constCount)
  | .mov _ _ => true
  | .rdstat => true
  | .clrerr => true
  | .add _ _ _ => true
  | .sub _ _ _ => true
  | .mul _ _ _ => true
  | .div _ _ _ => true
  | .mod _ _ _ => true
  | .neg _ _ => true
  | .abs _ _ => true
  | .sign _ _ => true
  | .fadd _ _ _ => true
  | .fsub _ _ _ => true
  | .fmul _ _ _ => true
  | .fmod _ _ _ => true
  | .fabs _ _ => true
  | .floor _ _ => true
  | .ceil _ _ => true
  | .round _ _ => true
  | .frac _ _ => true
  | .hasfrac _ => true
  | .cmpeq _ _ => true
  | .cmpne _ _ => true
  | .cmplt _ _ => true
  | .cmpgt _ _ => true
  | .cmple _ _ => true
  | .cmpge _ _ => true
  | .sqrt _ _ => true
  | .log2 _ _ => true
  | .ln _ _ => true
  | .pow2 _ _ => true
  | .pow _ _ _ => true
  | .sin _ _ => true
  | .cos _ _ => true
  | .tan _ _ => true
  | .atan _ _ => true
  | .acos _ _ => true
  | .atan2 _ _ _ => true
  | .todeg _ _ => true
  | .torad _ _ => true
  | .icreate _ _ _ => true
  | .icreateu _ _ _ => true
  | .iovlv _ _ => true
  | .iovl _ _ => true
  | .iint _ _ _ => true
  | .iunion _ _ _ => true
  | .imtv _ _ _ => true
  | .ieq _ _ => true
  | .isetlo _ _ _ => true
  | .isetlou _ _ _ => true
  | .isethi _ _ _ => true
  | .isethiu _ _ _ => true
  | .iaddlo _ _ _ => true
  | .iaddlou _ _ _ => true
  | .iaddhi _ _ _ => true
  | .iaddhiu _ _ _ => true
  | .itrans _ _ _ => true
  | .itransu _ _ _ => true

/-- A term of `Instr` that is a command. -/
abbrev Instr.WellFormed (i : Instr) : Prop := i.wellFormed = true

end Sys2Proof
end

