-- ==== Sys2Proof/Decode.lean ====
section
/-! DEFINITION. Sys2Proof/Decode.lean: the command word (rules R61 to R65, R71 step 2): decoder, then encoder.

The decoder is total on all `2^32` words: `none` is the illegal word of rule R65, which the machine answers by raising
IllegalCommand (Machine/Control.lean). -/

namespace Sys2Proof

/-! ## Fields and formats (rule R61) -/

/-- `op`, bits 31:24. -/
def opField (w : CmdWord) : BitVec 8 := w.extractLsb' 24 8
/-- `rd`, bits 23:20. -/
def rdField (w : CmdWord) : BitVec 4 := w.extractLsb' 20 4
/-- `ra`, bits 19:16. -/
def raField (w : CmdWord) : BitVec 4 := w.extractLsb' 16 4
/-- `rb`, bits 15:12. -/
def rbField (w : CmdWord) : BitVec 4 := w.extractLsb' 12 4
/-- `z`, bits 11:8, zero in every command. -/
def zField (w : CmdWord) : BitVec 4 := w.extractLsb' 8 4
/-- `imm8`, bits 7:0. -/
def imm8Field (w : CmdWord) : BitVec 8 := w.extractLsb' 0 8

/-- The mask column of rule R61: a 1 at every bit the format fixes. -/
def Format.mask : Format → CmdWord
  | .z   => 0xFFFFFFFF#32
  | .d   => 0xFF0FFFFF#32
  | .a   => 0xFFF0FFFF#32
  | .dc  => 0xFF0FFF00#32
  | .da  => 0xFF00FFFF#32
  | .dab => 0xFF000FFF#32
  | .ab  => 0xFFF00FFF#32
  | .pss => 0xFF100FFF#32
  | .xps => 0xFFF10FFF#32
  | .xpp => 0xFFF11FFF#32
  | .ppp => 0xFF111FFF#32
  | .spp => 0xFF011FFF#32
  | .pps => 0xFF110FFF#32

/-- `match` of rule R61: `op << 24`. -/
def opMatch (op : BitVec 8) : CmdWord := op ++ 0#24

/-- Rule R61: the word is of this row, `w & mask == match`. -/
def fits (fmt : Format) (op : BitVec 8) (w : CmdWord) : Bool := w &&& fmt.mask == opMatch op

/-- A scalar register field holds the register number directly (rule R62). -/
def regOfField (b : BitVec 4) : Reg := b.toFin

/-- A pair field holds the even register number of the pair (rule R62): `i<k>` is `2k`. -/
def pairOfField (b : BitVec 4) : Pair := ⟨b.toNat / 2, by have := b.isLt; omega⟩

/-! ## The decoder (rules R64, R65, R71) -/

/-- A word of format `Z` with opcode `op`, read as the command `mk` of its operand fields; `none` when a bit the format
fixes is wrong (rule R65). -/
def decodeZ (op : BitVec 8) (mk : Instr) (w : CmdWord) : Option Instr :=
  if fits .z op w then some mk else none

/-- A word of format `D` with opcode `op`, read as the command `mk` of its operand fields; `none` when a bit the format
fixes is wrong (rule R65). -/
def decodeD (op : BitVec 8) (mk : Reg → Instr) (w : CmdWord) : Option Instr :=
  if fits .d op w then some (mk (regOfField (rdField w))) else none

/-- A word of format `A` with opcode `op`, read as the command `mk` of its operand fields; `none` when a bit the format
fixes is wrong (rule R65). -/
def decodeA (op : BitVec 8) (mk : Reg → Instr) (w : CmdWord) : Option Instr :=
  if fits .a op w then some (mk (regOfField (raField w))) else none

/-- A word of format `DA` with opcode `op`, read as the command `mk` of its operand fields; `none` when a bit the format
fixes is wrong (rule R65). -/
def decodeDA (op : BitVec 8) (mk : Reg → Reg → Instr) (w : CmdWord) : Option Instr :=
  if fits .da op w then some (mk (regOfField (rdField w)) (regOfField (raField w))) else none

/-- A word of format `DAB` with opcode `op`, read as the command `mk` of its operand fields; `none` when a bit the format
fixes is wrong (rule R65). -/
def decodeDAB (op : BitVec 8) (mk : Reg → Reg → Reg → Instr) (w : CmdWord) : Option Instr :=
  if fits .dab op w then some (mk (regOfField (rdField w)) (regOfField (raField w)) (regOfField (rbField w))) else none

/-- A word of format `AB` with opcode `op`, read as the command `mk` of its operand fields; `none` when a bit the format
fixes is wrong (rule R65). -/
def decodeAB (op : BitVec 8) (mk : Reg → Reg → Instr) (w : CmdWord) : Option Instr :=
  if fits .ab op w then some (mk (regOfField (raField w)) (regOfField (rbField w))) else none

/-- A word of format `PSS` with opcode `op`, read as the command `mk` of its operand fields; `none` when a bit the format
fixes is wrong (rule R65). -/
def decodePSS (op : BitVec 8) (mk : Pair → Reg → Reg → Instr) (w : CmdWord) : Option Instr :=
  if fits .pss op w then some (mk (pairOfField (rdField w)) (regOfField (raField w)) (regOfField (rbField w))) else none

/-- A word of format `XPS` with opcode `op`, read as the command `mk` of its operand fields; `none` when a bit the format
fixes is wrong (rule R65). -/
def decodeXPS (op : BitVec 8) (mk : Pair → Reg → Instr) (w : CmdWord) : Option Instr :=
  if fits .xps op w then some (mk (pairOfField (raField w)) (regOfField (rbField w))) else none

/-- A word of format `XPP` with opcode `op`, read as the command `mk` of its operand fields; `none` when a bit the format
fixes is wrong (rule R65). -/
def decodeXPP (op : BitVec 8) (mk : Pair → Pair → Instr) (w : CmdWord) : Option Instr :=
  if fits .xpp op w then some (mk (pairOfField (raField w)) (pairOfField (rbField w))) else none

/-- A word of format `PPP` with opcode `op`, read as the command `mk` of its operand fields; `none` when a bit the format
fixes is wrong (rule R65). -/
def decodePPP (op : BitVec 8) (mk : Pair → Pair → Pair → Instr) (w : CmdWord) : Option Instr :=
  if fits .ppp op w then some (mk (pairOfField (rdField w)) (pairOfField (raField w)) (pairOfField (rbField w))) else none

/-- A word of format `SPP` with opcode `op`, read as the command `mk` of its operand fields; `none` when a bit the format
fixes is wrong (rule R65). -/
def decodeSPP (op : BitVec 8) (mk : Reg → Pair → Pair → Instr) (w : CmdWord) : Option Instr :=
  if fits .spp op w then some (mk (regOfField (rdField w)) (pairOfField (raField w)) (pairOfField (rbField w))) else none

/-- A word of format `PPS` with opcode `op`, read as the command `mk` of its operand fields; `none` when a bit the format
fixes is wrong (rule R65). -/
def decodePPS (op : BitVec 8) (mk : Pair → Pair → Reg → Instr) (w : CmdWord) : Option Instr :=
  if fits .pps op w then some (mk (pairOfField (rdField w)) (pairOfField (raField w)) (regOfField (rbField w))) else none

/-- A word of format `DC`, with the further condition `imm8 ≤ 20` (rules R61, R65). -/
def decodeDC (op : BitVec 8) (mk : Reg → BitVec 8 → Instr) (w : CmdWord) : Option Instr :=
  if fits .dc op w && decide ((imm8Field w).toNat < constCount) then some (mk (regOfField (rdField w)) (imm8Field w)) else none

/-- The decoder: the one row of rule R64 the word is of, if there is one (rule R71 step 2). -/
def decode (w : CmdWord) : Option Instr :=
  match (opField w).toNat with
  | 0x01 => decodeD 0x01#8 .wrr w
  | 0x02 => decodeA 0x02#8 .rdr w
  | 0x03 => decodeD 0x03#8 .wri w
  | 0x04 => decodeA 0x04#8 .rdi w
  | 0x05 => decodeDC 0x05#8 .ldc w
  | 0x06 => decodeDA 0x06#8 .mov w
  | 0x08 => decodeZ 0x08#8 .rdstat w
  | 0x09 => decodeZ 0x09#8 .clrerr w
  | 0x10 => decodeDAB 0x10#8 .add w
  | 0x11 => decodeDAB 0x11#8 .sub w
  | 0x12 => decodeDAB 0x12#8 .mul w
  | 0x13 => decodeDAB 0x13#8 .div w
  | 0x14 => decodeDAB 0x14#8 .mod w
  | 0x15 => decodeDA 0x15#8 .neg w
  | 0x16 => decodeDA 0x16#8 .abs w
  | 0x17 => decodeDA 0x17#8 .sign w
  | 0x18 => decodeDAB 0x18#8 .fadd w
  | 0x19 => decodeDAB 0x19#8 .fsub w
  | 0x1A => decodeDAB 0x1A#8 .fmul w
  | 0x1C => decodeDAB 0x1C#8 .fmod w
  | 0x1E => decodeDA 0x1E#8 .fabs w
  | 0x20 => decodeDA 0x20#8 .floor w
  | 0x21 => decodeDA 0x21#8 .ceil w
  | 0x22 => decodeDA 0x22#8 .round w
  | 0x23 => decodeDA 0x23#8 .frac w
  | 0x24 => decodeA 0x24#8 .hasfrac w
  | 0x28 => decodeAB 0x28#8 .cmpeq w
  | 0x29 => decodeAB 0x29#8 .cmpne w
  | 0x2A => decodeAB 0x2A#8 .cmplt w
  | 0x2B => decodeAB 0x2B#8 .cmpgt w
  | 0x2C => decodeAB 0x2C#8 .cmple w
  | 0x2D => decodeAB 0x2D#8 .cmpge w
  | 0x30 => decodeDA 0x30#8 .sqrt w
  | 0x31 => decodeDA 0x31#8 .log2 w
  | 0x32 => decodeDA 0x32#8 .ln w
  | 0x33 => decodeDA 0x33#8 .pow2 w
  | 0x34 => decodeDAB 0x34#8 .pow w
  | 0x40 => decodeDA 0x40#8 .sin w
  | 0x41 => decodeDA 0x41#8 .cos w
  | 0x42 => decodeDA 0x42#8 .tan w
  | 0x43 => decodeDA 0x43#8 .atan w
  | 0x44 => decodeDA 0x44#8 .acos w
  | 0x45 => decodeDAB 0x45#8 .atan2 w
  | 0x46 => decodeDA 0x46#8 .todeg w
  | 0x47 => decodeDA 0x47#8 .torad w
  | 0x50 => decodePSS 0x50#8 .icreate w
  | 0x51 => decodePSS 0x51#8 .icreateu w
  | 0x52 => decodeXPS 0x52#8 .iovlv w
  | 0x53 => decodeXPP 0x53#8 .iovl w
  | 0x54 => decodePPP 0x54#8 .iint w
  | 0x55 => decodePPP 0x55#8 .iunion w
  | 0x56 => decodeSPP 0x56#8 .imtv w
  | 0x57 => decodeXPP 0x57#8 .ieq w
  | 0x58 => decodePPS 0x58#8 .isetlo w
  | 0x59 => decodePPS 0x59#8 .isetlou w
  | 0x5A => decodePPS 0x5A#8 .isethi w
  | 0x5B => decodePPS 0x5B#8 .isethiu w
  | 0x5C => decodePPS 0x5C#8 .iaddlo w
  | 0x5D => decodePPS 0x5D#8 .iaddlou w
  | 0x5E => decodePPS 0x5E#8 .iaddhi w
  | 0x5F => decodePPS 0x5F#8 .iaddhiu w
  | 0x60 => decodePPS 0x60#8 .itrans w
  | 0x61 => decodePPS 0x61#8 .itransu w
  | _ => none

/-! ## The opcode table and the encoder (rules R61, R62, R64) -/

/-- One row of rule R64's table. -/
structure OpRow where
  mnemonic : String
  op : BitVec 8
  format : Format
  deriving DecidableEq, Repr

/-- Rule R64's table, row by row. -/
def opcodeTable : List OpRow :=
  [ ⟨"WRR", 0x01#8, .d⟩,
    ⟨"RDR", 0x02#8, .a⟩,
    ⟨"WRI", 0x03#8, .d⟩,
    ⟨"RDI", 0x04#8, .a⟩,
    ⟨"LDC", 0x05#8, .dc⟩,
    ⟨"MOV", 0x06#8, .da⟩,
    ⟨"RDSTAT", 0x08#8, .z⟩,
    ⟨"CLRERR", 0x09#8, .z⟩ ] ++
  [ ⟨"ADD", 0x10#8, .dab⟩,
    ⟨"SUB", 0x11#8, .dab⟩,
    ⟨"MUL", 0x12#8, .dab⟩,
    ⟨"DIV", 0x13#8, .dab⟩,
    ⟨"MOD", 0x14#8, .dab⟩,
    ⟨"NEG", 0x15#8, .da⟩,
    ⟨"ABS", 0x16#8, .da⟩,
    ⟨"SIGN", 0x17#8, .da⟩,
    ⟨"FADD", 0x18#8, .dab⟩,
    ⟨"FSUB", 0x19#8, .dab⟩,
    ⟨"FMUL", 0x1A#8, .dab⟩,
    ⟨"FMOD", 0x1C#8, .dab⟩,
    ⟨"FABS", 0x1E#8, .da⟩ ] ++
  [ ⟨"FLOOR", 0x20#8, .da⟩,
    ⟨"CEIL", 0x21#8, .da⟩,
    ⟨"ROUND", 0x22#8, .da⟩,
    ⟨"FRAC", 0x23#8, .da⟩,
    ⟨"HASFRAC", 0x24#8, .a⟩,
    ⟨"CMPEQ", 0x28#8, .ab⟩,
    ⟨"CMPNE", 0x29#8, .ab⟩,
    ⟨"CMPLT", 0x2A#8, .ab⟩,
    ⟨"CMPGT", 0x2B#8, .ab⟩,
    ⟨"CMPLE", 0x2C#8, .ab⟩,
    ⟨"CMPGE", 0x2D#8, .ab⟩ ] ++
  [ ⟨"SQRT", 0x30#8, .da⟩,
    ⟨"LOG2", 0x31#8, .da⟩,
    ⟨"LN", 0x32#8, .da⟩,
    ⟨"POW2", 0x33#8, .da⟩,
    ⟨"POW", 0x34#8, .dab⟩ ] ++
  [ ⟨"SIN", 0x40#8, .da⟩,
    ⟨"COS", 0x41#8, .da⟩,
    ⟨"TAN", 0x42#8, .da⟩,
    ⟨"ATAN", 0x43#8, .da⟩,
    ⟨"ACOS", 0x44#8, .da⟩,
    ⟨"ATAN2", 0x45#8, .dab⟩,
    ⟨"TODEG", 0x46#8, .da⟩,
    ⟨"TORAD", 0x47#8, .da⟩ ] ++
  [ ⟨"ICREATE", 0x50#8, .pss⟩,
    ⟨"ICREATEU", 0x51#8, .pss⟩,
    ⟨"IOVLV", 0x52#8, .xps⟩,
    ⟨"IOVL", 0x53#8, .xpp⟩,
    ⟨"IINT", 0x54#8, .ppp⟩,
    ⟨"IUNION", 0x55#8, .ppp⟩,
    ⟨"IMTV", 0x56#8, .spp⟩,
    ⟨"IEQ", 0x57#8, .xpp⟩,
    ⟨"ISETLO", 0x58#8, .pps⟩,
    ⟨"ISETLOU", 0x59#8, .pps⟩,
    ⟨"ISETHI", 0x5A#8, .pps⟩,
    ⟨"ISETHIU", 0x5B#8, .pps⟩,
    ⟨"IADDLO", 0x5C#8, .pps⟩,
    ⟨"IADDLOU", 0x5D#8, .pps⟩,
    ⟨"IADDHI", 0x5E#8, .pps⟩,
    ⟨"IADDHIU", 0x5F#8, .pps⟩,
    ⟨"ITRANS", 0x60#8, .pps⟩,
    ⟨"ITRANSU", 0x61#8, .pps⟩ ]

/-- The row of rule R64 a command belongs to. -/
def Instr.row : Instr → OpRow
  | .wrr _ => ⟨"WRR", 0x01#8, .d⟩
  | .rdr _ => ⟨"RDR", 0x02#8, .a⟩
  | .wri _ => ⟨"WRI", 0x03#8, .d⟩
  | .rdi _ => ⟨"RDI", 0x04#8, .a⟩
  | .ldc _ _ => ⟨"LDC", 0x05#8, .dc⟩
  | .mov _ _ => ⟨"MOV", 0x06#8, .da⟩
  | .rdstat => ⟨"RDSTAT", 0x08#8, .z⟩
  | .clrerr => ⟨"CLRERR", 0x09#8, .z⟩
  | .add _ _ _ => ⟨"ADD", 0x10#8, .dab⟩
  | .sub _ _ _ => ⟨"SUB", 0x11#8, .dab⟩
  | .mul _ _ _ => ⟨"MUL", 0x12#8, .dab⟩
  | .div _ _ _ => ⟨"DIV", 0x13#8, .dab⟩
  | .mod _ _ _ => ⟨"MOD", 0x14#8, .dab⟩
  | .neg _ _ => ⟨"NEG", 0x15#8, .da⟩
  | .abs _ _ => ⟨"ABS", 0x16#8, .da⟩
  | .sign _ _ => ⟨"SIGN", 0x17#8, .da⟩
  | .fadd _ _ _ => ⟨"FADD", 0x18#8, .dab⟩
  | .fsub _ _ _ => ⟨"FSUB", 0x19#8, .dab⟩
  | .fmul _ _ _ => ⟨"FMUL", 0x1A#8, .dab⟩
  | .fmod _ _ _ => ⟨"FMOD", 0x1C#8, .dab⟩
  | .fabs _ _ => ⟨"FABS", 0x1E#8, .da⟩
  | .floor _ _ => ⟨"FLOOR", 0x20#8, .da⟩
  | .ceil _ _ => ⟨"CEIL", 0x21#8, .da⟩
  | .round _ _ => ⟨"ROUND", 0x22#8, .da⟩
  | .frac _ _ => ⟨"FRAC", 0x23#8, .da⟩
  | .hasfrac _ => ⟨"HASFRAC", 0x24#8, .a⟩
  | .cmpeq _ _ => ⟨"CMPEQ", 0x28#8, .ab⟩
  | .cmpne _ _ => ⟨"CMPNE", 0x29#8, .ab⟩
  | .cmplt _ _ => ⟨"CMPLT", 0x2A#8, .ab⟩
  | .cmpgt _ _ => ⟨"CMPGT", 0x2B#8, .ab⟩
  | .cmple _ _ => ⟨"CMPLE", 0x2C#8, .ab⟩
  | .cmpge _ _ => ⟨"CMPGE", 0x2D#8, .ab⟩
  | .sqrt _ _ => ⟨"SQRT", 0x30#8, .da⟩
  | .log2 _ _ => ⟨"LOG2", 0x31#8, .da⟩
  | .ln _ _ => ⟨"LN", 0x32#8, .da⟩
  | .pow2 _ _ => ⟨"POW2", 0x33#8, .da⟩
  | .pow _ _ _ => ⟨"POW", 0x34#8, .dab⟩
  | .sin _ _ => ⟨"SIN", 0x40#8, .da⟩
  | .cos _ _ => ⟨"COS", 0x41#8, .da⟩
  | .tan _ _ => ⟨"TAN", 0x42#8, .da⟩
  | .atan _ _ => ⟨"ATAN", 0x43#8, .da⟩
  | .acos _ _ => ⟨"ACOS", 0x44#8, .da⟩
  | .atan2 _ _ _ => ⟨"ATAN2", 0x45#8, .dab⟩
  | .todeg _ _ => ⟨"TODEG", 0x46#8, .da⟩
  | .torad _ _ => ⟨"TORAD", 0x47#8, .da⟩
  | .icreate _ _ _ => ⟨"ICREATE", 0x50#8, .pss⟩
  | .icreateu _ _ _ => ⟨"ICREATEU", 0x51#8, .pss⟩
  | .iovlv _ _ => ⟨"IOVLV", 0x52#8, .xps⟩
  | .iovl _ _ => ⟨"IOVL", 0x53#8, .xpp⟩
  | .iint _ _ _ => ⟨"IINT", 0x54#8, .ppp⟩
  | .iunion _ _ _ => ⟨"IUNION", 0x55#8, .ppp⟩
  | .imtv _ _ _ => ⟨"IMTV", 0x56#8, .spp⟩
  | .ieq _ _ => ⟨"IEQ", 0x57#8, .xpp⟩
  | .isetlo _ _ _ => ⟨"ISETLO", 0x58#8, .pps⟩
  | .isetlou _ _ _ => ⟨"ISETLOU", 0x59#8, .pps⟩
  | .isethi _ _ _ => ⟨"ISETHI", 0x5A#8, .pps⟩
  | .isethiu _ _ _ => ⟨"ISETHIU", 0x5B#8, .pps⟩
  | .iaddlo _ _ _ => ⟨"IADDLO", 0x5C#8, .pps⟩
  | .iaddlou _ _ _ => ⟨"IADDLOU", 0x5D#8, .pps⟩
  | .iaddhi _ _ _ => ⟨"IADDHI", 0x5E#8, .pps⟩
  | .iaddhiu _ _ _ => ⟨"IADDHIU", 0x5F#8, .pps⟩
  | .itrans _ _ _ => ⟨"ITRANS", 0x60#8, .pps⟩
  | .itransu _ _ _ => ⟨"ITRANSU", 0x61#8, .pps⟩

/-- The operand fields of a command word; an unused field is zero (rule R61). -/
structure Fields where
  rd : BitVec 4 := 0#4
  ra : BitVec 4 := 0#4
  rb : BitVec 4 := 0#4
  imm8 : BitVec 8 := 0#8
  deriving DecidableEq, Repr

/-- The field of a scalar register (rule R62). -/
def regBits (r : Reg) : BitVec 4 := BitVec.ofFin r

/-- The field of a pair: its even register number (rule R62). -/
def pairBits (p : Pair) : BitVec 4 := BitVec.ofNat 4 (2 * p.val)

/-- The operand fields of a command, by its format (rules R61, R62). -/
def Instr.fields : Instr → Fields
  | .wrr rd => { rd := regBits rd }
  | .rdr ra => { ra := regBits ra }
  | .wri rd => { rd := regBits rd }
  | .rdi ra => { ra := regBits ra }
  | .ldc rd k => { rd := regBits rd, imm8 := k }
  | .mov rd ra => { rd := regBits rd, ra := regBits ra }
  | .rdstat => { }
  | .clrerr => { }
  | .add rd ra rb => { rd := regBits rd, ra := regBits ra, rb := regBits rb }
  | .sub rd ra rb => { rd := regBits rd, ra := regBits ra, rb := regBits rb }
  | .mul rd ra rb => { rd := regBits rd, ra := regBits ra, rb := regBits rb }
  | .div rd ra rb => { rd := regBits rd, ra := regBits ra, rb := regBits rb }
  | .mod rd ra rb => { rd := regBits rd, ra := regBits ra, rb := regBits rb }
  | .neg rd ra => { rd := regBits rd, ra := regBits ra }
  | .abs rd ra => { rd := regBits rd, ra := regBits ra }
  | .sign rd ra => { rd := regBits rd, ra := regBits ra }
  | .fadd rd ra rb => { rd := regBits rd, ra := regBits ra, rb := regBits rb }
  | .fsub rd ra rb => { rd := regBits rd, ra := regBits ra, rb := regBits rb }
  | .fmul rd ra rb => { rd := regBits rd, ra := regBits ra, rb := regBits rb }
  | .fmod rd ra rb => { rd := regBits rd, ra := regBits ra, rb := regBits rb }
  | .fabs rd ra => { rd := regBits rd, ra := regBits ra }
  | .floor rd ra => { rd := regBits rd, ra := regBits ra }
  | .ceil rd ra => { rd := regBits rd, ra := regBits ra }
  | .round rd ra => { rd := regBits rd, ra := regBits ra }
  | .frac rd ra => { rd := regBits rd, ra := regBits ra }
  | .hasfrac ra => { ra := regBits ra }
  | .cmpeq ra rb => { ra := regBits ra, rb := regBits rb }
  | .cmpne ra rb => { ra := regBits ra, rb := regBits rb }
  | .cmplt ra rb => { ra := regBits ra, rb := regBits rb }
  | .cmpgt ra rb => { ra := regBits ra, rb := regBits rb }
  | .cmple ra rb => { ra := regBits ra, rb := regBits rb }
  | .cmpge ra rb => { ra := regBits ra, rb := regBits rb }
  | .sqrt rd ra => { rd := regBits rd, ra := regBits ra }
  | .log2 rd ra => { rd := regBits rd, ra := regBits ra }
  | .ln rd ra => { rd := regBits rd, ra := regBits ra }
  | .pow2 rd ra => { rd := regBits rd, ra := regBits ra }
  | .pow rd ra rb => { rd := regBits rd, ra := regBits ra, rb := regBits rb }
  | .sin rd ra => { rd := regBits rd, ra := regBits ra }
  | .cos rd ra => { rd := regBits rd, ra := regBits ra }
  | .tan rd ra => { rd := regBits rd, ra := regBits ra }
  | .atan rd ra => { rd := regBits rd, ra := regBits ra }
  | .acos rd ra => { rd := regBits rd, ra := regBits ra }
  | .atan2 rd ra rb => { rd := regBits rd, ra := regBits ra, rb := regBits rb }
  | .todeg rd ra => { rd := regBits rd, ra := regBits ra }
  | .torad rd ra => { rd := regBits rd, ra := regBits ra }
  | .icreate id ra rb => { rd := pairBits id, ra := regBits ra, rb := regBits rb }
  | .icreateu id ra rb => { rd := pairBits id, ra := regBits ra, rb := regBits rb }
  | .iovlv ia rb => { ra := pairBits ia, rb := regBits rb }
  | .iovl ia ib => { ra := pairBits ia, rb := pairBits ib }
  | .iint id ia ib => { rd := pairBits id, ra := pairBits ia, rb := pairBits ib }
  | .iunion id ia ib => { rd := pairBits id, ra := pairBits ia, rb := pairBits ib }
  | .imtv rd ia ib => { rd := regBits rd, ra := pairBits ia, rb := pairBits ib }
  | .ieq ia ib => { ra := pairBits ia, rb := pairBits ib }
  | .isetlo id ia rb => { rd := pairBits id, ra := pairBits ia, rb := regBits rb }
  | .isetlou id ia rb => { rd := pairBits id, ra := pairBits ia, rb := regBits rb }
  | .isethi id ia rb => { rd := pairBits id, ra := pairBits ia, rb := regBits rb }
  | .isethiu id ia rb => { rd := pairBits id, ra := pairBits ia, rb := regBits rb }
  | .iaddlo id ia rb => { rd := pairBits id, ra := pairBits ia, rb := regBits rb }
  | .iaddlou id ia rb => { rd := pairBits id, ra := pairBits ia, rb := regBits rb }
  | .iaddhi id ia rb => { rd := pairBits id, ra := pairBits ia, rb := regBits rb }
  | .iaddhiu id ia rb => { rd := pairBits id, ra := pairBits ia, rb := regBits rb }
  | .itrans id ia rb => { rd := pairBits id, ra := pairBits ia, rb := regBits rb }
  | .itransu id ia rb => { rd := pairBits id, ra := pairBits ia, rb := regBits rb }

/-- The fields laid out in a word, `z` zero (rule R61). -/
def packWord (op : BitVec 8) (f : Fields) : CmdWord := op ++ f.rd ++ f.ra ++ f.rb ++ 0#4 ++ f.imm8

/-- The word of a command. -/
def encode (i : Instr) : CmdWord := packWord i.row.op i.fields

/-! ## The word as the host's table numbers it -/

/-- The instruction the decoder reads from a row's word: every command is one 32-bit word (rule R60), and bit 0 is its least
significant bit (rule R7). -/
def decodeTableWord (nbits w : Nat) : Option Instr := decode (BitVec.ofNat 32 (w % 2 ^ nbits))

end Sys2Proof
end

