-- ==== Sys2Proof/Config.lean ====
section
/-! DEFINITION. Sys2Proof/Config.lean: what the unit takes as a parameter (rules R6, R30, R33, R42, R43, R207), and the free value.

The VALUES the parameters have by default are `Sys2Proof.Machine.config` (Machine/Rom.lean).  Every pure function whose rule
uses a parameter takes a `Config`, so that a claim can be stated for all settings of it. -/

namespace Sys2Proof

/-- The parameters of rules R6 and R33: the seven irrational entries of the constant ROM, `UNION_INVERTED`, and the two
read-only tables, each a function from a word index (rule R41). -/
structure Config where
  /-- `CONST[7]` -/
  pi : Scalar
  /-- `CONST[8]` -/
  piOver2 : Scalar
  /-- `CONST[9]` -/
  piTimes2 : Scalar
  /-- `CONST[10]` -/
  piInv : Scalar
  /-- `CONST[11]` -/
  e : Scalar
  /-- `CONST[17]` -/
  ln2 : Scalar
  /-- `CONST[19]` -/
  rad2Deg : Scalar
  /-- `UNION_INVERTED` (rule R207) -/
  unionInverted : Bool
  /-- `SinTable[i]`, `0 ≤ i < 92160` (rule R42) -/
  sinTable : Nat → Scalar
  /-- `TanTable[i]`, `0 ≤ i < 92160` (rule R43) -/
  tanTable : Nat → Scalar

/-- FREE VALUE (assumption 2): what a scalar register holds when a reset that the host asserts in the course of a run ends
(rules R23, R32: "unspecified, each independently; not required to be the same after two resets").  It has no body: nothing
can be proved of its values. -/
opaque Config.freeScalar : Nat → Scalar

end Sys2Proof
end

