-- ==== Sys2Proof/Machine/State.lean ====
section
/-! DEFINITION. Sys2Proof/Machine/State.lean: the state of the unit and of its command port, as plain data (rules R20 to R33).

The unit has no program counter and no read-write memory (rules R24, R40).  Its own state is `f`, `fstat`, `fcmd`.  The rest
of `State` is the host's side of the command port (rules R60, R256, R275): what the host has still to do, the command in
progress, and the responses it has had.  The ROMs and the parameters are not state (rule R33). -/

namespace Sys2Proof.Machine

/-- The four causes of rule R240; their codes are `Cause.code` (Machine/Ops.lean). -/
inductive Cause where
  | divisionByZero | domainError | fastFault | illegalCommand
  deriving DecidableEq, Repr

/-- `FSTAT`, the status register of rule R26: the three fields that are storage.  Bits 3:2 and 31:8 are hardwired zero, so
they are no field; `Fstat.word` (Machine/Ops.lean) lays the 32 bits out. -/
structure Fstat where
  /-- `T`, bit 0: the truth flag (rule R25). -/
  t : Bool
  /-- `ERR`, bit 1: an error is latched and the unit is blocked. -/
  err : Bool
  /-- `CAUSE`, bits 7:4. -/
  cause : BitVec 4
  deriving DecidableEq, Repr

/-- A command: the command word and the 64-bit write-data word that comes with it (rule R60). -/
structure Command where
  cmd : CmdWord
  wdata : BitVec 64
  deriving DecidableEq, Repr

/-- A response: the response code `resp[3:0]` and the read-data word (rules R60, R70). -/
structure Response where
  resp : BitVec 4
  rdata : BitVec 64
  deriving DecidableEq, Repr

/-- What the host can do to the unit (rules R20, R256): issue any word with any `wdata`, or assert reset between two
commands (rule R270). -/
inductive HostAction where
  | issue (c : Command)
  | reset
  deriving DecidableEq, Repr

structure State where
  /-- `f0` to `f15`, raw values (rule R21); a pair is a view of two of them (rule R22). -/
  f : Vector Scalar 16
  /-- `FSTAT` (rule R26). -/
  fstat : Fstat
  /-- `FCMD`, the faulting command word (rule R27). -/
  fcmd : CmdWord
  /-- The command at the port: the one in progress, and after it the last one (rule R60). -/
  issued : Command
  /-- The responses the host has received, newest first (rule R275: the outcome of a run; the unit keeps none, rule R33). -/
  responses : List Response
  /-- What the host does from here on, next first (rules R24, R275: the program is the host's). -/
  pending : List HostAction
  /-- The MODEL's own field (assumption 2): the index of the next free value of `Config.freeScalar`. -/
  freeNext : Nat
  deriving DecidableEq, Repr

/-- The reasons a step stops with a fault: none.  Every behaviour of the unit has a next state (rules R71, R256, R276; 93:
"There is no behaviour in this spec whose treatment is `stuck`"); an error of the unit is a latch, not a stop (rule R244). -/
inductive Fault where
  deriving DecidableEq, Repr

/-- The reasons a step has no meaning. -/
inductive Refusal where
  /-- An instruction `exec` has no meaning for (raised by an arm of Machine/Dispatch.lean only; safe).  No arm raises it:
  every row of the opcode table has its meaning. -/
  | notModelled (mnemonic : String)
  deriving DecidableEq, Repr

/-- The state when reset ends (rules R32, R271): `FSTAT` = 0, `FCMD` = 0.  The spec leaves `f0` to `f15` unspecified; zero
is the model's named value (assumption 1, DESIGN CHOICE, unsafe).  Nothing has been issued, answered or planned
(assumption 3). -/
def State.reset : State where
  f := Vector.replicate 16 0#64
  fstat := { t := false, err := false, cause := 0#4 }
  fcmd := 0#32
  issued := { cmd := 0#32, wdata := 0#64 }
  responses := []
  pending := []
  freeNext := 0

end Sys2Proof.Machine
end

