-- ==== Sys2Proof/Machine/Ops.lean ====
section
/-! DEFINITION. Sys2Proof/Machine/Ops.lean: the named operations over the state: registers and pairs (rules R9, R21, R22),
`FSTAT` (rules R25, R26), the response (rules R60, R70), raising a cause and clearing it (rules R244, R247), the blocked
state (rule R245), reset (rule R270), and how a command ends (rule R11). -/

namespace Sys2Proof.Machine

/-! ## Registers and pairs -/

/-- `f[i]` (rule R9). -/
def State.getF (s : State) (r : Reg) : Scalar := s.f[r]

/-- `f[i] <- v`: all 64 bits (rules R9, R21). -/
def State.setF (s : State) (r : Reg) (v : Scalar) : State := { s with f := s.f.set r v }

/-- The register that holds the `Lower` of `i<k>`: `f[2k]` (rule R22). -/
def lowerReg (p : Pair) : Reg := ⟨2 * p.val, by omega⟩

/-- The register that holds the `Upper` of `i<k>`: `f[2k+1]` (rule R22). -/
def upperReg (p : Pair) : Reg := ⟨2 * p.val + 1, by omega⟩

/-- An interval value: two scalars, no ordering implied (rules R8, R200). -/
structure Interval where
  lo : Scalar
  hi : Scalar
  deriving DecidableEq, Repr

/-- `p[i]` (rule R9). -/
def State.getP (s : State) (p : Pair) : Interval := ⟨s.getF (lowerReg p), s.getF (upperReg p)⟩

/-- `p[i] <- (lo, hi)` (rule R9). -/
def State.setP (s : State) (p : Pair) (v : Interval) : State := (s.setF (lowerReg p) v.lo).setF (upperReg p) v.hi

/-! ## The status register -/

/-- The 32 bits of `FSTAT` (rule R26): `T` bit 0, `ERR` bit 1, `CAUSE` bits 7:4, every other bit hardwired 0. -/
def Fstat.word (x : Fstat) : BitVec 32 := 0#24 ++ x.cause ++ 0#2 ++ BitVec.ofBool x.err ++ BitVec.ofBool x.t

/-- `T <- b` (rules R9, R25). -/
def State.setT (s : State) (b : Bool) : State := { s with fstat := { s.fstat with t := b } }

/-- The word `RDSTAT` reads: `FCMD` above `FSTAT` (rule R86). -/
def State.statusWord (s : State) : BitVec 64 := s.fcmd ++ s.fstat.word

/-! ## Responses and codes -/

/-- The code of a cause: what goes into `CAUSE` and into `resp` (rule R240). -/
def Cause.code : Cause → BitVec 4
  | .divisionByZero => 1#4
  | .domainError    => 2#4
  | .fastFault      => 3#4
  | .illegalCommand => 4#4

/-- `OK` (rule R70). -/
def respOk : BitVec 4 := 0#4

/-- `BLOCKED` (rule R70). -/
def respBlocked : BitVec 4 := 0xF#4

/-- The unit answers the command in progress (rule R60). -/
def State.respond (s : State) (resp : BitVec 4) (rdata : BitVec 64) : State :=
  { s with responses := ⟨resp, rdata⟩ :: s.responses }

/-! ## Raise and return (rules R244, R247) -/

/-- Raise: the unit's trap entry (rules R242, R244).  `ERR` and `CAUSE` are set, `FCMD` gets the whole word as issued, the
response is the cause's code with `rdata` = 0; no register and not `T`. -/
def State.raise (s : State) (c : Cause) : State :=
  { s with fstat := { s.fstat with err := true, cause := c.code }, fcmd := s.issued.cmd }.respond c.code 0#64

/-- The return from a raise: what `CLRERR` does to the latch (rules R87, R247). -/
def State.clearLatch (s : State) : State :=
  { s with fstat := { s.fstat with err := false, cause := 0#4 }, fcmd := 0#32 }

/-! ## How a command ends (rule R11) -/

/-- The command completed and read no data out: `OK`, `rdata` = 0 (rule R70). -/
def complete (s : State) : Host.Outcome State Fault Refusal := .next (s.respond respOk 0#64)

/-- The command completed and set `rdata` (rules R9, R70). -/
def completeWith (rdata : BitVec 64) (s : State) : Host.Outcome State Fault Refusal := .next (s.respond respOk rdata)

/-- A command whose result is one scalar: it writes `fd` and completes, or raises the cause its function raised and writes
nothing else (rules R10, R244). -/
def finishScalar (rd : Reg) (result : Except Cause Scalar) (s : State) : Host.Outcome State Fault Refusal :=
  match result with
  | .ok v    => complete (s.setF rd v)
  | .error c => .next (s.raise c)

/-! ## The blocked state (rules R71 step 1, R245) -/

/-- The two exact words that run while `ERR` = 1: `RDSTAT` and `CLRERR`. -/
def runsWhileLatched (w : CmdWord) : Bool := w == 0x08000000#32 || w == 0x09000000#32

/-- The command at the port is answered `BLOCKED`. -/
def State.blocks (s : State) : Bool := s.fstat.err && !runsWhileLatched s.issued.cmd

/-- The blocked answer: `BLOCKED`, `rdata` = 0, and nothing changes. -/
def State.answerBlocked (s : State) : State := s.respond respBlocked 0#64

/-! ## The host's side of the port -/

/-- The host's next action, taken from its list (rule R60: one at a time, in order). -/
def State.takeAction (s : State) : Option (HostAction × State) :=
  match s.pending with
  | []        => none
  | a :: rest => some (a, { s with pending := rest })

/-- A command is presented at the port. -/
def State.present (s : State) (c : Command) : State := { s with issued := c }

/-- What the registers hold when an asserted reset ends: sixteen free values, each independent, fresh at each reset (rules
R23, R32; assumption 2). -/
def freeRegisters (n : Nat) : Vector Scalar 16 := Vector.ofFn fun (i : Fin 16) => Config.freeScalar (n + i.val)

/-- The host asserts reset between two commands (rules R32, R270, R271): the unit's own state is the reset state, its
registers unspecified; no response belongs to it, and the host goes on with its list. -/
def State.assertReset (s : State) : State :=
  { s with
    f := freeRegisters s.freeNext
    fstat := { t := false, err := false, cause := 0#4 }
    fcmd := 0#32
    freeNext := s.freeNext + 16 }

end Sys2Proof.Machine
end

