-- ==== Sys2Proof/Machine/Flags.lean ====
section
/-! DEFINITION. Sys2Proof/Machine/Flags.lean: the one flag, `T` (rule R25): the truth values that go into it.  Equality is of
all 64 raw bits; order is the order of the raw values as signed integers (rule R141). -/

namespace Sys2Proof.Machine

/-- `a = b` (rule R135). -/
def truthEq (a b : Scalar) : Bool := a == b
/-- `a ≠ b` (rule R136). -/
def truthNe (a b : Scalar) : Bool := a != b
/-- `a < b`, signed (rule R137). -/
def truthLt (a b : Scalar) : Bool := decide (a.toInt < b.toInt)
/-- `a > b`, signed (rule R138). -/
def truthGt (a b : Scalar) : Bool := decide (a.toInt > b.toInt)
/-- `a ≤ b`, signed (rule R139). -/
def truthLe (a b : Scalar) : Bool := decide (a.toInt ≤ b.toInt)
/-- `a ≥ b`, signed (rule R140). -/
def truthGe (a b : Scalar) : Bool := decide (a.toInt ≥ b.toInt)

/-- A command whose result is a truth value: `T` gets it, nothing else changes, `rdata` = 0 (rules R25, R141). -/
def finishTruth (b : Bool) (s : State) : Host.Outcome State Fault Refusal := complete (s.setT b)

end Sys2Proof.Machine
end

