-- ==== Sys2Proof/Machine/Operands.lean ====
section
/-! DEFINITION. Sys2Proof/Machine/Operands.lean: the operand forms that are not plainly a register or a pair: the write-data
word (rule R63), and the words read out (rules R81, R83).  Registers and pairs are `getF` and `getP` (Machine/Ops.lean); the
constant index of `LDC` is read in Machine/Rom.lean. -/

namespace Sys2Proof.Machine

/-- The 64-bit immediate of `WRR`: `wdata` as it stands (rule R63). -/
def State.wdataRaw (s : State) : Scalar := s.issued.wdata

/-- The integer operand of `WRI`: `wdata[31:0]` read as a signed 32-bit integer; `wdata[63:32]` is ignored (rule R63). -/
def State.wdataInt (s : State) : Int := (s.issued.wdata.extractLsb' 0 32).toInt

/-- The integer `RDI` reads out: `a >> 32`, sign-extended to 64 bits (rule R83). -/
def integerOut (a : Scalar) : BitVec 64 := a.sshiftRight 32

end Sys2Proof.Machine
end

