-- ==== Sys2Proof/Machine/Rom.lean ====
section
/-! DEFINITION. Sys2Proof/Machine/Rom.lean: the read-only memories (rules R29, R30, R41 to R44): the constant ROM and the two
tables, and the default setting of the parameters (rule R6). -/

namespace Sys2Proof.Machine

/-! ## Named constants (rule R30), the exact ones -/

def constZero : Scalar := 0x0000000000000000#64
def constOne : Scalar := 0x0000000100000000#64
def constMinusOne : Scalar := 0xFFFFFFFF00000000#64
def constTwo : Scalar := 0x0000000200000000#64
def constHalf : Scalar := 0x0000000080000000#64
def constMinValue : Scalar := 0x8000000000000000#64
def constMaxValue : Scalar := 0x7FFFFFFFFFFFFFFF#64
/-- 360 degrees -/
def constFullRot : Scalar := 0x0000016800000000#64
/-- 180 degrees -/
def constHalfRot : Scalar := 0x000000B400000000#64
/-- 90 degrees -/
def constQuarterRot : Scalar := 0x0000005A00000000#64
/-- 45 degrees -/
def constEighthRot : Scalar := 0x0000002D00000000#64
def constPrecisionUnit : Scalar := 0x0000000000000001#64
/-- `31 · 2^32` -/
def constLog2Max : Scalar := 0x0000001F00000000#64
def constThree : Scalar := 0x0000000300000000#64

/-- The constant ROM, index 0 to 20 (rule R30); the seven irrational entries are the configuration's. -/
def constRom (p : Config) : List Scalar :=
  [constZero, constOne, constMinusOne, constTwo, constHalf, constMinValue, constMaxValue,
   p.pi, p.piOver2, p.piTimes2, p.piInv, p.e,
   constFullRot, constHalfRot, constQuarterRot, constEighthRot, constPrecisionUnit,
   p.ln2, constLog2Max, p.rad2Deg, constThree]

/-- `CONST[k]` (rule R9); `none` for an index the ROM does not have (rule R65). -/
def constRead (p : Config) (k : BitVec 8) : Option Scalar := (constRom p)[k.toNat]?

/-! ## The table ROMs (rules R41 to R43)

`round(sin(i/1024 degrees) · 2^32)` and `round(tan(i/1024 degrees) · 2^32)`, by integer arithmetic: the sine's power series
with 96 fraction bits, and the tangent as the sine over the sine of the complement (assumption 5). -/

/-- `N`, the number of entries of each table (rules R6, R41): `(90 · 2^32) >> 22`. -/
def tableSize : Nat := 92160

/-- `floor(π · 2^96)`. -/
def piFix : Nat := 0x3243F6A8885A308D313198A2E

/-- `i / 1024` degrees in radians, `· 2^96`: `π · i / 184320`. -/
def angleFix (i : Nat) : Nat := piFix * i / 184320

/-- The alternating series `t - (t' - (t'' - …))`, `n` terms from the `k`-th on: `t` is that term's magnitude and the next is
`t · x² / (2k (2k + 1))`, every value `· 2^96`; from `t = x`, `k = 1` it is `x - x³/3! + x⁵/5! - …`. -/
def sineTerms (x2 : Nat) : Nat → Nat → Nat → Int
  | 0, _, _ => 0
  | n + 1, k, t => (t : Int) - sineTerms x2 n (k + 1) (t * x2 / 2 ^ 96 / (2 * k * (2 * k + 1)))

/-- `sin(i/1024 degrees) · 2^96`: fourteen terms of the series. -/
def sineFix (i : Nat) : Int :=
  let x := angleFix i
  sineTerms (x * x / 2 ^ 96) 14 1 x

/-- `SinTable[i]`: the sine rounded to the nearest multiple of `2^-32` (rule R42). -/
def defaultSinTable (i : Nat) : Scalar := BitVec.ofInt 64 ((sineFix i + 2 ^ 63) / 2 ^ 64)

/-- The tangent rounded to the nearest multiple of `2^-32`, as an integer: the cosine of `i/1024` degrees is the sine of
`(92160 - i)/1024` degrees. -/
def tangentRaw (i : Nat) : Int := (sineFix i * 2 ^ 33 / sineFix (tableSize - i) + 1) / 2

/-- `TanTable[i]`: the rounded tangent, "clamped to `MaxValue` for divergence or negative artifacts" (rule R43). -/
def defaultTanTable (i : Nat) : Scalar :=
  let v := tangentRaw i
  if v > 2 ^ 63 - 1 ∨ v < 0 then constMaxValue else BitVec.ofInt 64 v

/-! ## The parameters at their defaults (rules R6, R30, R207; assumptions 4 and 5) -/

/-- The unit's parameters: every one at the default the spec gives it. -/
def config : Config where
  pi := 0x00000003243F6A88#64
  piOver2 := 0x00000001921FB544#64
  piTimes2 := 0x00000006487ED511#64
  piInv := 0x00000000517CC1B7#64
  e := 0x00000002B7E15162#64
  ln2 := 0x00000000B17217F7#64
  rad2Deg := 0x000000394BB834C7#64
  unionInverted := false
  sinTable := defaultSinTable
  tanTable := defaultTanTable

/-- `ATAN_MAX_ITER` (rules R6, R177). -/
def atanMaxIter : Nat := 28

end Sys2Proof.Machine
end

