-- ==== Sys2Proof/Machine/Arithmetic.lean ====
section
/-! DEFINITION. Sys2Proof/Machine/Arithmetic.lean: the thirteen arithmetic commands (rules R100 to R115).

The pure functions of rule R10 stand in `Fix`, each computed exactly in `Int` (the rules' `Z`) and narrowed at the end by
`sat64` or `wrap64` (rule R113); the meanings follow. -/

namespace Sys2Proof.Machine

/-! ## Narrowing (rule R8) -/

/-- `wrap64(z)`: the scalar congruent to `z` modulo `2^64`. -/
def wrap64 (z : Int) : Scalar := BitVec.ofInt 64 z

/-- `sat64(z)`: `z` clamped to the range of a scalar. -/
def sat64 (z : Int) : Scalar :=
  if z < -2 ^ 63 then constMinValue else if z > 2 ^ 63 - 1 then constMaxValue else BitVec.ofInt 64 z

/-! ## The functions -/

namespace Fix

/-- `ADD(a, b) = sat64(a + b)` (rule R100). -/
def add (a b : Scalar) : Scalar := sat64 (a.toInt + b.toInt)

/-- `SUB(a, b) = sat64(a - b)` (rule R101; conflict C6). -/
def sub (a b : Scalar) : Scalar := sat64 (a.toInt - b.toInt)

/-- `floor(a · b / 2^32)`, the product shifted right 32, arithmetic (rules R102, R110). -/
def product (a b : Scalar) : Int := a.toInt * b.toInt / 2 ^ 32

/-- `MUL(a, b)` (rule R102). -/
def mul (a b : Scalar) : Scalar := sat64 (product a b)

/-- The rounded, signed quotient of rule R103, `b ≠ 0`: one extra quotient bit, an added 1, the bit shifted out, the sign. -/
def quotient (a b : Scalar) : Int :=
  let q33 : Nat := a.toInt.natAbs * 2 ^ 33 / b.toInt.natAbs
  let mag : Int := ((q33 + 1) / 2 : Nat)
  if decide (a.toInt < 0) != decide (b.toInt < 0) then -mag else mag

/-- `DIV(a, b)` (rule R103). -/
def div (a b : Scalar) : Except Cause Scalar :=
  if b = 0#64 then .error .divisionByZero else .ok (sat64 (quotient a b))

/-- `MOD(a, b)`: the truncated remainder of the raw values (rules R8, R104). -/
def mod (a b : Scalar) : Except Cause Scalar :=
  if b = 0#64 then .error .divisionByZero else .ok (wrap64 (a.toInt.tmod b.toInt))

/-- `NEG(a) = sat64(-a)` (rule R105). -/
def neg (a : Scalar) : Scalar := sat64 (-a.toInt)

/-- `ABS(a) = sat64(|a|)` (rule R106). -/
def abs (a : Scalar) : Scalar := sat64 (a.toInt.natAbs : Int)

/-- `SIGN(a)`, a scalar (rule R107). -/
def sign (a : Scalar) : Scalar :=
  if a.toInt > 0 then constOne else if a.toInt < 0 then constMinusOne else constZero

/-- `FADD(a, b) = wrap64(a + b)` (rule R108). -/
def fadd (a b : Scalar) : Scalar := wrap64 (a.toInt + b.toInt)

/-- `FSUB(a, b) = wrap64(a - b)` (rule R109). -/
def fsub (a b : Scalar) : Scalar := wrap64 (a.toInt - b.toInt)

/-- `FMUL(a, b) = wrap64(floor(a · b / 2^32))` (rule R110). -/
def fmul (a b : Scalar) : Scalar := wrap64 (product a b)

/-- `FMOD(a, b)` (rule R111; conflict C3: "`-1`" is the raw value -1). -/
def fmod (a b : Scalar) : Except Cause Scalar :=
  if b = 0#64 then .error .fastFault
  else if a = constMinValue ∧ b.toInt = -1 then .error .fastFault
  else .ok (wrap64 (a.toInt.tmod b.toInt))

/-- `FABS(a) = wrap64(|a|)` (rule R112). -/
def fabs (a : Scalar) : Scalar := wrap64 (a.toInt.natAbs : Int)

end Fix

/-! ## The meanings -/

/-- Rule R100. -/
def execAdd (rd ra rb : Reg) (s : State) : Host.Outcome State Fault Refusal :=
  complete (s.setF rd (Fix.add (s.getF ra) (s.getF rb)))

/-- Rule R101. -/
def execSub (rd ra rb : Reg) (s : State) : Host.Outcome State Fault Refusal :=
  complete (s.setF rd (Fix.sub (s.getF ra) (s.getF rb)))

/-- Rule R102. -/
def execMul (rd ra rb : Reg) (s : State) : Host.Outcome State Fault Refusal :=
  complete (s.setF rd (Fix.mul (s.getF ra) (s.getF rb)))

/-- Rule R103. -/
def execDiv (rd ra rb : Reg) (s : State) : Host.Outcome State Fault Refusal :=
  finishScalar rd (Fix.div (s.getF ra) (s.getF rb)) s

/-- Rule R104. -/
def execMod (rd ra rb : Reg) (s : State) : Host.Outcome State Fault Refusal :=
  finishScalar rd (Fix.mod (s.getF ra) (s.getF rb)) s

/-- Rule R105. -/
def execNeg (rd ra : Reg) (s : State) : Host.Outcome State Fault Refusal :=
  complete (s.setF rd (Fix.neg (s.getF ra)))

/-- Rule R106. -/
def execAbs (rd ra : Reg) (s : State) : Host.Outcome State Fault Refusal :=
  complete (s.setF rd (Fix.abs (s.getF ra)))

/-- Rule R107. -/
def execSign (rd ra : Reg) (s : State) : Host.Outcome State Fault Refusal :=
  complete (s.setF rd (Fix.sign (s.getF ra)))

/-- Rule R108. -/
def execFadd (rd ra rb : Reg) (s : State) : Host.Outcome State Fault Refusal :=
  complete (s.setF rd (Fix.fadd (s.getF ra) (s.getF rb)))

/-- Rule R109. -/
def execFsub (rd ra rb : Reg) (s : State) : Host.Outcome State Fault Refusal :=
  complete (s.setF rd (Fix.fsub (s.getF ra) (s.getF rb)))

/-- Rule R110. -/
def execFmul (rd ra rb : Reg) (s : State) : Host.Outcome State Fault Refusal :=
  complete (s.setF rd (Fix.fmul (s.getF ra) (s.getF rb)))

/-- Rule R111. -/
def execFmod (rd ra rb : Reg) (s : State) : Host.Outcome State Fault Refusal :=
  finishScalar rd (Fix.fmod (s.getF ra) (s.getF rb)) s

/-- Rule R112. -/
def execFabs (rd ra : Reg) (s : State) : Host.Outcome State Fault Refusal :=
  complete (s.setF rd (Fix.fabs (s.getF ra)))

end Sys2Proof.Machine
end

