-- ==== Sys2Proof/Machine/Interval.lean ====
section
/-! DEFINITION. Sys2Proof/Machine/Interval.lean: the interval commands (rules R200 to R220).  The order of the two bounds is
never tested (rule R200): an inverted pair gets the formula's value. -/

namespace Sys2Proof.Machine

namespace Fix

/-- `min(u, v)` (rule R201). -/
def min (u v : Scalar) : Scalar := if u.toInt ≤ v.toInt then u else v

/-- `max(u, v)` (rule R201). -/
def max (u v : Scalar) : Scalar := if u.toInt ≥ v.toInt then u else v

/-- `sort(u, v)` (rule R201). -/
def sort (u v : Scalar) : Interval := if u.toInt ≤ v.toInt then ⟨u, v⟩ else ⟨v, u⟩

/-- `IOVLV`'s test (rule R204). -/
def overlapsValue (a : Interval) (v : Scalar) : Bool := truthLe a.lo v && truthLe v a.hi

/-- `IOVL`'s test (rule R205): touching counts. -/
def overlaps (a b : Interval) : Bool := truthLe a.lo b.hi && truthLe b.lo a.hi

/-- `IEQ`'s test (rule R209). -/
def intervalEq (a b : Interval) : Bool := truthEq a.lo b.lo && truthEq a.hi b.hi

/-- `IINT` (rule R206): the truth value and the interval, `(0, 0)` when it is false. -/
def intersection (a b : Interval) : Bool × Interval :=
  let lo := max a.lo b.lo
  let hi := min a.hi b.hi
  if lo.toInt > hi.toInt then (false, ⟨constZero, constZero⟩) else (true, ⟨lo, hi⟩)

/-- `IUNION` (rule R207; conflict C1): the hull, or its two bounds swapped under `UNION_INVERTED`. -/
def union (inverted : Bool) (a b : Interval) : Interval :=
  if inverted then ⟨max a.hi b.hi, min a.lo b.lo⟩ else ⟨min a.lo b.lo, max a.hi b.hi⟩

/-- `IMTV` (rule R208): the smaller of the two push-outs, the negative one on a tie. -/
def minTranslation (x y : Interval) : Scalar :=
  if overlaps x y then
    let right := sub y.hi x.lo
    let left := neg (sub x.hi y.lo)
    if (abs right).toInt < (abs left).toInt then right else left
  else constZero

end Fix

/-! ## Construction -/

/-- Rule R202. -/
def execIcreate (id : Pair) (ra rb : Reg) (s : State) : Host.Outcome State Fault Refusal :=
  complete (s.setP id (Fix.sort (s.getF ra) (s.getF rb)))

/-- Rule R203. -/
def execIcreateu (id : Pair) (ra rb : Reg) (s : State) : Host.Outcome State Fault Refusal :=
  complete (s.setP id ⟨s.getF ra, s.getF rb⟩)

/-! ## Queries -/

/-- Rule R204. -/
def execIovlv (ia : Pair) (rb : Reg) (s : State) : Host.Outcome State Fault Refusal :=
  finishTruth (Fix.overlapsValue (s.getP ia) (s.getF rb)) s

/-- Rule R205. -/
def execIovl (ia ib : Pair) (s : State) : Host.Outcome State Fault Refusal :=
  finishTruth (Fix.overlaps (s.getP ia) (s.getP ib)) s

/-- Rule R209. -/
def execIeq (ia ib : Pair) (s : State) : Host.Outcome State Fault Refusal :=
  finishTruth (Fix.intervalEq (s.getP ia) (s.getP ib)) s

/-! ## Combination -/

/-- Rule R206: both arms write the pair and `T`. -/
def execIint (id ia ib : Pair) (s : State) : Host.Outcome State Fault Refusal :=
  let r := Fix.intersection (s.getP ia) (s.getP ib)
  complete ((s.setP id r.2).setT r.1)

/-- Rule R207; for a setting of the parameters. -/
def execIunionWith (p : Config) (id ia ib : Pair) (s : State) : Host.Outcome State Fault Refusal :=
  complete (s.setP id (Fix.union p.unionInverted (s.getP ia) (s.getP ib)))

/-- Rule R207; the parameters at their defaults. -/
def execIunion (id ia ib : Pair) (s : State) : Host.Outcome State Fault Refusal := execIunionWith config id ia ib s

/-- Rule R208. -/
def execImtv (rd : Reg) (ia ib : Pair) (s : State) : Host.Outcome State Fault Refusal :=
  complete (s.setF rd (Fix.minTranslation (s.getP ia) (s.getP ib)))

/-! ## Bound mutators -/

/-- Rule R210. -/
def execIsetlo (id ia : Pair) (rb : Reg) (s : State) : Host.Outcome State Fault Refusal :=
  complete (s.setP id (Fix.sort (s.getF rb) (s.getP ia).hi))

/-- Rule R211. -/
def execIsetlou (id ia : Pair) (rb : Reg) (s : State) : Host.Outcome State Fault Refusal :=
  complete (s.setP id ⟨s.getF rb, (s.getP ia).hi⟩)

/-- Rule R212. -/
def execIsethi (id ia : Pair) (rb : Reg) (s : State) : Host.Outcome State Fault Refusal :=
  complete (s.setP id (Fix.sort (s.getP ia).lo (s.getF rb)))

/-- Rule R213. -/
def execIsethiu (id ia : Pair) (rb : Reg) (s : State) : Host.Outcome State Fault Refusal :=
  complete (s.setP id ⟨(s.getP ia).lo, s.getF rb⟩)

/-- Rule R214. -/
def execIaddlo (id ia : Pair) (rb : Reg) (s : State) : Host.Outcome State Fault Refusal :=
  complete (s.setP id (Fix.sort (Fix.add (s.getP ia).lo (s.getF rb)) (s.getP ia).hi))

/-- Rule R215. -/
def execIaddlou (id ia : Pair) (rb : Reg) (s : State) : Host.Outcome State Fault Refusal :=
  complete (s.setP id ⟨Fix.add (s.getP ia).lo (s.getF rb), (s.getP ia).hi⟩)

/-- Rule R216. -/
def execIaddhi (id ia : Pair) (rb : Reg) (s : State) : Host.Outcome State Fault Refusal :=
  complete (s.setP id (Fix.sort (s.getP ia).lo (Fix.add (s.getP ia).hi (s.getF rb))))

/-- Rule R217. -/
def execIaddhiu (id ia : Pair) (rb : Reg) (s : State) : Host.Outcome State Fault Refusal :=
  complete (s.setP id ⟨(s.getP ia).lo, Fix.add (s.getP ia).hi (s.getF rb)⟩)

/-- Rule R218. -/
def execItrans (id ia : Pair) (rb : Reg) (s : State) : Host.Outcome State Fault Refusal :=
  complete (s.setP id (Fix.sort (Fix.add (s.getP ia).lo (s.getF rb)) (Fix.add (s.getP ia).hi (s.getF rb))))

/-- Rule R219. -/
def execItransu (id ia : Pair) (rb : Reg) (s : State) : Host.Outcome State Fault Refusal :=
  complete (s.setP id ⟨Fix.add (s.getP ia).lo (s.getF rb), Fix.add (s.getP ia).hi (s.getF rb)⟩)

end Sys2Proof.Machine
end

