-- ==== Sys2Proof/Machine/MoveConvert.lean ====
section
/-! DEFINITION. Sys2Proof/Machine/MoveConvert.lean: the moves, the integer conversions, and the status commands (rules R80 to
R87). -/

namespace Sys2Proof.Machine

/-- `WRR fd, =wdata` (rule R80): all 64 bits of `wdata`. -/
def execWrr (rd : Reg) (s : State) : Host.Outcome State Fault Refusal := complete (s.setF rd s.wdataRaw)

/-- `RDR fa` (rule R81): `rdata` is the register's 64 bits. -/
def execRdr (ra : Reg) (s : State) : Host.Outcome State Fault Refusal := completeWith (s.getF ra) s

/-- `WRI fd, =wdata` (rule R82): the integer times `2^32`, which always fits. -/
def execWri (rd : Reg) (s : State) : Host.Outcome State Fault Refusal :=
  complete (s.setF rd (BitVec.ofInt 64 (s.wdataInt * 2 ^ 32)))

/-- `RDI fa` (rule R83): `floor(raw / 2^32)`, sign-extended. -/
def execRdi (ra : Reg) (s : State) : Host.Outcome State Fault Refusal := completeWith (integerOut (s.getF ra)) s

/-- `LDC fd, #k` (rule R84) for a setting of the parameters: a ROM word, or IllegalCommand for an index the ROM does not
have. -/
def execLdcWith (p : Config) (rd : Reg) (k : BitVec 8) (s : State) : Host.Outcome State Fault Refusal :=
  match constRead p k with
  | some v => complete (s.setF rd v)
  | none   => .next (s.raise .illegalCommand)

/-- Rule R84, the parameters at their defaults. -/
def execLdc (rd : Reg) (k : BitVec 8) (s : State) : Host.Outcome State Fault Refusal := execLdcWith config rd k s

/-- `MOV fd, fa` (rule R85). -/
def execMov (rd ra : Reg) (s : State) : Host.Outcome State Fault Refusal := complete (s.setF rd (s.getF ra))

/-- `RDSTAT` (rule R86): `FCMD` and `FSTAT`; no state changes. -/
def execRdstat (s : State) : Host.Outcome State Fault Refusal := completeWith s.statusWord s

/-- `CLRERR` (rule R87): the latch is cleared; `T` and the registers are not. -/
def execClrerr (s : State) : Host.Outcome State Fault Refusal := complete s.clearLatch

end Sys2Proof.Machine
end

