-- ==== Sys2Proof/Machine/RoundCompare.lean ====
section
/-! DEFINITION. Sys2Proof/Machine/RoundCompare.lean: rounding, classification and comparison (rules R130 to R141). -/

namespace Sys2Proof.Machine

namespace Fix

/-- `ip(a)`: the low 32 bits cleared. -/
def ip (a : Scalar) : Scalar := a &&& 0xFFFFFFFF00000000#64

/-- `fr(a)`: the low 32 bits; its value is in `[0, 2^32 - 1]`. -/
def fr (a : Scalar) : Scalar := a &&& 0x00000000FFFFFFFF#64

/-- `FLOOR(a)` (rule R130). -/
def floor (a : Scalar) : Scalar := ip a

/-- `CEIL(a)` (rule R131): saturates through `ADD`. -/
def ceil (a : Scalar) : Scalar := if fr a = 0#64 then a else add (ip a) constOne

/-- `ROUND(a)` (rule R132): to nearest, a half to even. -/
def round (a : Scalar) : Scalar :=
  if (fr a).toNat < 0x80000000 then ip a
  else if (fr a).toNat > 0x80000000 then add (ip a) constOne
  else if a.getLsbD 32 then add (ip a) constOne
  else ip a

/-- `FRAC(a)` (rule R133). -/
def frac (a : Scalar) : Scalar := fr a

/-- `HASFRAC(a)` (rule R134). -/
def hasFrac (a : Scalar) : Bool := fr a != 0#64

end Fix

/-! ## Rounding and classification -/

/-- Rule R130. -/
def execFloor (rd ra : Reg) (s : State) : Host.Outcome State Fault Refusal :=
  complete (s.setF rd (Fix.floor (s.getF ra)))

/-- Rule R131. -/
def execCeil (rd ra : Reg) (s : State) : Host.Outcome State Fault Refusal :=
  complete (s.setF rd (Fix.ceil (s.getF ra)))

/-- Rule R132. -/
def execRound (rd ra : Reg) (s : State) : Host.Outcome State Fault Refusal :=
  complete (s.setF rd (Fix.round (s.getF ra)))

/-- Rule R133. -/
def execFrac (rd ra : Reg) (s : State) : Host.Outcome State Fault Refusal :=
  complete (s.setF rd (Fix.frac (s.getF ra)))

/-- Rule R134. -/
def execHasfrac (ra : Reg) (s : State) : Host.Outcome State Fault Refusal :=
  finishTruth (Fix.hasFrac (s.getF ra)) s

/-! ## Comparison -/

/-- Rule R135. -/
def execCmpeq (ra rb : Reg) (s : State) : Host.Outcome State Fault Refusal :=
  finishTruth (truthEq (s.getF ra) (s.getF rb)) s

/-- Rule R136. -/
def execCmpne (ra rb : Reg) (s : State) : Host.Outcome State Fault Refusal :=
  finishTruth (truthNe (s.getF ra) (s.getF rb)) s

/-- Rule R137. -/
def execCmplt (ra rb : Reg) (s : State) : Host.Outcome State Fault Refusal :=
  finishTruth (truthLt (s.getF ra) (s.getF rb)) s

/-- Rule R138. -/
def execCmpgt (ra rb : Reg) (s : State) : Host.Outcome State Fault Refusal :=
  finishTruth (truthGt (s.getF ra) (s.getF rb)) s

/-- Rule R139. -/
def execCmple (ra rb : Reg) (s : State) : Host.Outcome State Fault Refusal :=
  finishTruth (truthLe (s.getF ra) (s.getF rb)) s

/-- Rule R140. -/
def execCmpge (ra rb : Reg) (s : State) : Host.Outcome State Fault Refusal :=
  finishTruth (truthGe (s.getF ra) (s.getF rb)) s

end Sys2Proof.Machine
end

