-- ==== Sys2Proof/Machine/Transcendental.lean ====
section
/-! DEFINITION. Sys2Proof/Machine/Transcendental.lean: square root, logarithm and power (rules R150 to R155).

Each rule's loop is a structural recursion on the number of passes it may take (rule R276); the pass itself is the rule's,
in its order. -/

namespace Sys2Proof.Machine

namespace Fix

/-! ## Square root (rule R150) -/

/-- The integer square root, bit by bit from bit `k - 1` down: `r` is the root so far. -/
def rootBits (n : Nat) : Nat → Nat → Nat
  | 0, r => r
  | k + 1, r => rootBits n k (if (r + 2 ^ k) * (r + 2 ^ k) ≤ n then r + 2 ^ k else r)

/-- `floor(sqrt(n))` for `n < 2^96`: 48 root bits (rule R276). -/
def floorSqrt (n : Nat) : Nat := rootBits n 48 0

/-- `SQRT(a)` (rule R150). -/
def sqrt (a : Scalar) : Except Cause Scalar :=
  if a.toInt < 0 then .error .domainError
  else
    let n := a.toInt.toNat * 2 ^ 32
    let r := floorSqrt n
    .ok (wrap64 (if n - r * r > r then r + 1 else r : Nat))

/-! ## Logarithm (rules R151, R152) -/

/-- `while z < One: z = z · 2; y = y - One`, for at most `fuel` shifts. -/
def scaleUp : Nat → Scalar → Int → Scalar × Int
  | 0, z, y => (z, y)
  | fuel + 1, z, y =>
    if z.toInt < constOne.toInt then scaleUp fuel (wrap64 (z.toInt * 2)) (y - constOne.toInt) else (z, y)

/-- `while z ≥ Two: z = floor(z / 2); y = y + One`, for at most `fuel` shifts. -/
def scaleDown : Nat → Scalar → Int → Scalar × Int
  | 0, z, y => (z, y)
  | fuel + 1, z, y =>
    if z.toInt ≥ constTwo.toInt then scaleDown fuel (z.sshiftRight 1) (y + constOne.toInt) else (z, y)

/-- The passes that extract one fractional bit each, `b` the weight of the next bit. -/
def logBits : Nat → Scalar → Int → Int → Int
  | 0, _, y, _ => y
  | n + 1, z, y, b =>
    let sq := fmul z z
    if sq.toInt ≥ constTwo.toInt then logBits n (sq.sshiftRight 1) (y + b) (b / 2)
    else logBits n sq y (b / 2)

/-- `LOG2(a)` (rule R151): at most 32 shifts either way (rule R276), then exactly 32 passes. -/
def log2 (a : Scalar) : Except Cause Scalar :=
  if a.toInt ≤ 0 then .error .domainError
  else
    let up := scaleUp 32 a 0
    let down := scaleDown 32 up.1 up.2
    .ok (wrap64 (logBits 32 down.1 down.2 constHalf.toInt))

/-- `LN(a) = FMUL(LOG2(a), Ln2)` (rule R152). -/
def ln (p : Config) (a : Scalar) : Except Cause Scalar := do
  let l ← log2 a
  return fmul l p.ln2

/-! ## Powers (rules R153, R154) -/

/-- The series loop of rule R153, at most `fuel` passes: `while term ≠ 0`. -/
def pow2Series (p : Config) (f : Scalar) : Nat → Scalar → Scalar → Nat → Except Cause Scalar
  | 0, _, result, _ => .ok result
  | fuel + 1, term, result, i =>
    if term = 0#64 then .ok result
    else do
      let next ← div (fmul (fmul f term) p.ln2) (wrap64 (i * 2 ^ 32))
      pow2Series p f fuel next (add result next) (i + 1)

/-- More passes than the series of rule R153 can take with the `Ln2` of rule R30: the term at least halves, about, from
`2^32` down (rule R276 finds 12 by computation). -/
def pow2Fuel : Nat := 64

/-- The arms of rule R153 for an `x` that is not negative. -/
def pow2NonNeg (p : Config) (x : Scalar) : Except Cause Scalar :=
  if x = 0#64 then .ok constOne
  else if x = constOne then .ok constTwo
  else if x.toInt ≥ constLog2Max.toInt then .ok constMaxValue
  else do
    let result ← pow2Series p (x &&& 0x00000000FFFFFFFF#64) pow2Fuel constOne constOne 1
    return sat64 (result.toInt * 2 ^ (x.toInt / 2 ^ 32).toNat)

/-- `POW2(x)`, the tests in the rule's order (rule R153; conflict C7).  In the reciprocal arm `NEG(x)` is not negative. -/
def pow2 (p : Config) (x : Scalar) : Except Cause Scalar :=
  if x = 0#64 then .ok constOne
  else if x = constOne then .ok constTwo
  else if x = constMinusOne then .ok constHalf
  else if x.toInt ≥ constLog2Max.toInt then .ok constMaxValue
  else if x.toInt < -constLog2Max.toInt then .ok constPrecisionUnit
  else if x.toInt < 0 then do
    let y ← pow2NonNeg p (neg x)
    div constOne y
  else pow2NonNeg p x

/-- `POW(b, e)`, the tests in the rule's order (rule R154; conflict C10). -/
def pow (p : Config) (b e : Scalar) : Except Cause Scalar :=
  if b = constOne then .ok constOne
  else if e = 0#64 then .ok constOne
  else if b = 0#64 then
    if e.toInt < 0 then .error .divisionByZero else .ok constZero
  else if b.toInt < 0 then .error .domainError
  else do
    let l ← log2 b
    pow2 p (mul e l)

end Fix

/-! ## The meanings -/

/-- Rule R150. -/
def execSqrt (rd ra : Reg) (s : State) : Host.Outcome State Fault Refusal :=
  finishScalar rd (Fix.sqrt (s.getF ra)) s

/-- Rule R151. -/
def execLog2 (rd ra : Reg) (s : State) : Host.Outcome State Fault Refusal :=
  finishScalar rd (Fix.log2 (s.getF ra)) s

/-- Rule R152; for a setting of the parameters. -/
def execLnWith (p : Config) (rd ra : Reg) (s : State) : Host.Outcome State Fault Refusal :=
  finishScalar rd (Fix.ln p (s.getF ra)) s

/-- Rule R152; the parameters at their defaults. -/
def execLn (rd ra : Reg) (s : State) : Host.Outcome State Fault Refusal := execLnWith config rd ra s

/-- Rule R153; for a setting of the parameters. -/
def execPow2With (p : Config) (rd ra : Reg) (s : State) : Host.Outcome State Fault Refusal :=
  finishScalar rd (Fix.pow2 p (s.getF ra)) s

/-- Rule R153; the parameters at their defaults. -/
def execPow2 (rd ra : Reg) (s : State) : Host.Outcome State Fault Refusal := execPow2With config rd ra s

/-- Rule R154: the first source is the base, the second the exponent; for a setting of the parameters. -/
def execPowWith (p : Config) (rd ra rb : Reg) (s : State) : Host.Outcome State Fault Refusal :=
  finishScalar rd (Fix.pow p (s.getF ra) (s.getF rb)) s

/-- Rule R154: the first source is the base, the second the exponent; the parameters at their defaults. -/
def execPow (rd ra rb : Reg) (s : State) : Host.Outcome State Fault Refusal := execPowWith config rd ra rb s

end Sys2Proof.Machine
end

