-- ==== Sys2Proof/Machine/Trig.lean ====
section
/-! DEFINITION. Sys2Proof/Machine/Trig.lean: angles and trigonometry, in degrees (rules R170 to R179). -/

namespace Sys2Proof.Machine

namespace Fix

/-! ## Conversions (rules R171, R172) -/

/-- `TODEG(r) = DIV(MUL(r, 180°), Pi)`. -/
def toDeg (p : Config) (r : Scalar) : Except Cause Scalar := div (mul r constHalfRot) p.pi

/-- `TORAD(d) = DIV(MUL(d, Pi), 180°)`. -/
def toRad (p : Config) (d : Scalar) : Except Cause Scalar := div (mul d p.pi) constHalfRot

/-! ## Table-driven functions (rules R173 to R176) -/

/-- `a360` of rule R173: the Euclidean remainder by 360°. -/
def angle360 (a : Int) : Int := a % constFullRot.toInt

/-- `flipV`: the second half turn, its lower end included. -/
def flipV (a : Int) : Bool := decide (angle360 a ≥ constHalfRot.toInt)

/-- `a180`. -/
def angle180 (a : Int) : Int := if flipV a then angle360 a - constHalfRot.toInt else angle360 a

/-- `flipH`: the second quarter of the half turn, its lower end included. -/
def flipH (a : Int) : Bool := decide (angle180 a ≥ constQuarterRot.toInt)

/-- `a90`. -/
def angle90 (a : Int) : Int := if flipH a then angle180 a - constQuarterRot.toInt else angle180 a

/-- `idx`: the reduced angle in units of 1/1024 degree, truncated, reflected as `N - idx` (rule R173; conflicts C4, C9). -/
def sinIndex (a : Int) : Nat :=
  let idx := (angle90 a / 2 ^ 22).toNat
  if flipH a then tableSize - idx else idx

/-- `sin_core(A)` for an angle in `Z` (rule R173): `One` at the entry that is not stored. -/
def sinCore (p : Config) (a : Int) : Scalar :=
  let v := if sinIndex a = tableSize then constOne else p.sinTable (sinIndex a)
  if flipV a then -v else v

/-- `SIN(a)` (rule R174). -/
def sin (p : Config) (a : Scalar) : Scalar := sinCore p a.toInt

/-- `COS(a)`: the sum with 90° in `Z`, no wrapping and no saturation (rule R175). -/
def cos (p : Config) (a : Scalar) : Scalar := sinCore p (a.toInt + constQuarterRot.toInt)

/-- The tangent's reduction (rule R176): the truncated remainder by 180°, folded into `[-90°, 90°]`. -/
def tanReduce (a : Int) : Int :=
  let r := a.tmod constHalfRot.toInt
  if r > constQuarterRot.toInt then r - constHalfRot.toInt
  else if r < -constQuarterRot.toInt then r + constHalfRot.toInt
  else r

/-- `TAN(a)` (rule R176): the poles are values. -/
def tan (p : Config) (a : Scalar) : Scalar :=
  let r := tanReduce a.toInt
  let idx := r.natAbs / 2 ^ 22
  if idx ≥ tableSize then if r < 0 then constMinValue else constMaxValue
  else if r < 0 then neg (p.tanTable idx) else p.tanTable idx

/-! ## Series-driven inverse functions (rules R177 to R179) -/

/-- The loop of rule R177, at most `n` passes: the sum `s` when the term is 0 or the passes are used up. -/
def atanSeries (zSq2 zSq12 : Scalar) : Nat → Scalar → Scalar → Scalar → Scalar → Except Cause Scalar
  | 0, _, s, _, _ => .ok s
  | n + 1, term, s, dividend, divisor => do
    let q ← div dividend divisor
    let term' := mul term q
    let s' := add s term'
    if term' = 0#64 then return s'
    else atanSeries zSq2 zSq12 n term' s' (add dividend zSq2) (add divisor zSq12)

/-- The body of rule R177 for `0 ≤ z ≤ One`: the series and the scaling to degrees. -/
def atanUnit (p : Config) (z : Scalar) : Except Cause Scalar := do
  let zSq := mul z z
  let zSq2 := mul zSq constTwo
  let zSqP1 := add zSq constOne
  let zSq12 := mul zSqP1 constTwo
  let s ← atanSeries zSq2 zSq12 atanMaxIter constOne constOne zSq2 (mul zSqP1 constThree)
  div (mul (mul s z) p.rad2Deg) zSqP1

/-- Rule R177 for `z > 0`: `90° - atan(1/z)` above `One`. -/
def atanPos (p : Config) (z : Scalar) : Except Cause Scalar :=
  if z.toInt > constOne.toInt then do
    let inv ← div constOne z
    let r ← atanUnit p inv
    return sub constQuarterRot r
  else atanUnit p z

/-- `ATAN(z)` (rule R177). -/
def atan (p : Config) (z : Scalar) : Except Cause Scalar :=
  if z = 0#64 then .ok constZero
  else if z.toInt < 0 then do
    let r ← atanPos p (neg z)
    return neg r
  else atanPos p z

/-- `ACOS(x)` (rule R178). -/
def acos (p : Config) (x : Scalar) : Except Cause Scalar :=
  if x.toInt < constMinusOne.toInt ∨ x.toInt > constOne.toInt then .error .domainError
  else if x = 0#64 then .ok constQuarterRot
  else do
    let t ← sqrt (sub constOne (mul x x))
    let q ← div t x
    let r ← atan p q
    return if x.toInt < 0 then add r constHalfRot else r

/-- `ATAN2(y, x)` (rule R179). -/
def atan2 (p : Config) (y x : Scalar) : Except Cause Scalar :=
  if x = 0#64 then
    .ok (if y.toInt > 0 then constQuarterRot else if y.toInt < 0 then neg constQuarterRot else constZero)
  else do
    let q ← div y x
    let a ← atan p q
    return if x.toInt < 0 then (if y.toInt ≥ 0 then add a constHalfRot else sub a constHalfRot) else a

end Fix

/-! ## The meanings -/

/-- Rule R174; for a setting of the parameters. -/
def execSinWith (p : Config) (rd ra : Reg) (s : State) : Host.Outcome State Fault Refusal :=
  complete (s.setF rd (Fix.sin p (s.getF ra)))

/-- Rule R174; the parameters at their defaults. -/
def execSin (rd ra : Reg) (s : State) : Host.Outcome State Fault Refusal := execSinWith config rd ra s

/-- Rule R175; for a setting of the parameters. -/
def execCosWith (p : Config) (rd ra : Reg) (s : State) : Host.Outcome State Fault Refusal :=
  complete (s.setF rd (Fix.cos p (s.getF ra)))

/-- Rule R175; the parameters at their defaults. -/
def execCos (rd ra : Reg) (s : State) : Host.Outcome State Fault Refusal := execCosWith config rd ra s

/-- Rule R176; for a setting of the parameters. -/
def execTanWith (p : Config) (rd ra : Reg) (s : State) : Host.Outcome State Fault Refusal :=
  complete (s.setF rd (Fix.tan p (s.getF ra)))

/-- Rule R176; the parameters at their defaults. -/
def execTan (rd ra : Reg) (s : State) : Host.Outcome State Fault Refusal := execTanWith config rd ra s

/-- Rule R177; for a setting of the parameters. -/
def execAtanWith (p : Config) (rd ra : Reg) (s : State) : Host.Outcome State Fault Refusal :=
  finishScalar rd (Fix.atan p (s.getF ra)) s

/-- Rule R177; the parameters at their defaults. -/
def execAtan (rd ra : Reg) (s : State) : Host.Outcome State Fault Refusal := execAtanWith config rd ra s

/-- Rule R178; for a setting of the parameters. -/
def execAcosWith (p : Config) (rd ra : Reg) (s : State) : Host.Outcome State Fault Refusal :=
  finishScalar rd (Fix.acos p (s.getF ra)) s

/-- Rule R178; the parameters at their defaults. -/
def execAcos (rd ra : Reg) (s : State) : Host.Outcome State Fault Refusal := execAcosWith config rd ra s

/-- Rule R179: the first source is `y`, the second `x`; for a setting of the parameters. -/
def execAtan2With (p : Config) (rd ra rb : Reg) (s : State) : Host.Outcome State Fault Refusal :=
  finishScalar rd (Fix.atan2 p (s.getF ra) (s.getF rb)) s

/-- Rule R179: the first source is `y`, the second `x`; the parameters at their defaults. -/
def execAtan2 (rd ra rb : Reg) (s : State) : Host.Outcome State Fault Refusal := execAtan2With config rd ra rb s

/-- Rule R171; for a setting of the parameters. -/
def execTodegWith (p : Config) (rd ra : Reg) (s : State) : Host.Outcome State Fault Refusal :=
  finishScalar rd (Fix.toDeg p (s.getF ra)) s

/-- Rule R171; the parameters at their defaults. -/
def execTodeg (rd ra : Reg) (s : State) : Host.Outcome State Fault Refusal := execTodegWith config rd ra s

/-- Rule R172; for a setting of the parameters. -/
def execToradWith (p : Config) (rd ra : Reg) (s : State) : Host.Outcome State Fault Refusal :=
  finishScalar rd (Fix.toRad p (s.getF ra)) s

/-- Rule R172; the parameters at their defaults. -/
def execTorad (rd ra : Reg) (s : State) : Host.Outcome State Fault Refusal := execToradWith config rd ra s

end Sys2Proof.Machine
end

