-- ==== Sys2Proof/Machine/Dispatch.lean ====
section
/-! DEFINITION. Sys2Proof/Machine/Dispatch.lean: one arm per command of rule R64. -/

namespace Sys2Proof.Machine

def exec (i : Instr) (s : State) : Host.Outcome State Fault Refusal :=
  match i with
  | .wrr rd => Sys2Proof.Machine.execWrr rd s
  | .rdr ra => Sys2Proof.Machine.execRdr ra s
  | .wri rd => Sys2Proof.Machine.execWri rd s
  | .rdi ra => Sys2Proof.Machine.execRdi ra s
  | .ldc rd k => Sys2Proof.Machine.execLdc rd k s
  | .mov rd ra => Sys2Proof.Machine.execMov rd ra s
  | .rdstat => Sys2Proof.Machine.execRdstat s
  | .clrerr => Sys2Proof.Machine.execClrerr s
  | .add rd ra rb => Sys2Proof.Machine.execAdd rd ra rb s
  | .sub rd ra rb => Sys2Proof.Machine.execSub rd ra rb s
  | .mul rd ra rb => Sys2Proof.Machine.execMul rd ra rb s
  | .div rd ra rb => Sys2Proof.Machine.execDiv rd ra rb s
  | .mod rd ra rb => Sys2Proof.Machine.execMod rd ra rb s
  | .neg rd ra => Sys2Proof.Machine.execNeg rd ra s
  | .abs rd ra => Sys2Proof.Machine.execAbs rd ra s
  | .sign rd ra => Sys2Proof.Machine.execSign rd ra s
  | .fadd rd ra rb => Sys2Proof.Machine.execFadd rd ra rb s
  | .fsub rd ra rb => Sys2Proof.Machine.execFsub rd ra rb s
  | .fmul rd ra rb => Sys2Proof.Machine.execFmul rd ra rb s
  | .fmod rd ra rb => Sys2Proof.Machine.execFmod rd ra rb s
  | .fabs rd ra => Sys2Proof.Machine.execFabs rd ra s
  | .floor rd ra => Sys2Proof.Machine.execFloor rd ra s
  | .ceil rd ra => Sys2Proof.Machine.execCeil rd ra s
  | .round rd ra => Sys2Proof.Machine.execRound rd ra s
  | .frac rd ra => Sys2Proof.Machine.execFrac rd ra s
  | .hasfrac ra => Sys2Proof.Machine.execHasfrac ra s
  | .cmpeq ra rb => Sys2Proof.Machine.execCmpeq ra rb s
  | .cmpne ra rb => Sys2Proof.Machine.execCmpne ra rb s
  | .cmplt ra rb => Sys2Proof.Machine.execCmplt ra rb s
  | .cmpgt ra rb => Sys2Proof.Machine.execCmpgt ra rb s
  | .cmple ra rb => Sys2Proof.Machine.execCmple ra rb s
  | .cmpge ra rb => Sys2Proof.Machine.execCmpge ra rb s
  | .sqrt rd ra => Sys2Proof.Machine.execSqrt rd ra s
  | .log2 rd ra => Sys2Proof.Machine.execLog2 rd ra s
  | .ln rd ra => Sys2Proof.Machine.execLn rd ra s
  | .pow2 rd ra => Sys2Proof.Machine.execPow2 rd ra s
  | .pow rd ra rb => Sys2Proof.Machine.execPow rd ra rb s
  | .sin rd ra => Sys2Proof.Machine.execSin rd ra s
  | .cos rd ra => Sys2Proof.Machine.execCos rd ra s
  | .tan rd ra => Sys2Proof.Machine.execTan rd ra s
  | .atan rd ra => Sys2Proof.Machine.execAtan rd ra s
  | .acos rd ra => Sys2Proof.Machine.execAcos rd ra s
  | .atan2 rd ra rb => Sys2Proof.Machine.execAtan2 rd ra rb s
  | .todeg rd ra => Sys2Proof.Machine.execTodeg rd ra s
  | .torad rd ra => Sys2Proof.Machine.execTorad rd ra s
  | .icreate id ra rb => Sys2Proof.Machine.execIcreate id ra rb s
  | .icreateu id ra rb => Sys2Proof.Machine.execIcreateu id ra rb s
  | .iovlv ia rb => Sys2Proof.Machine.execIovlv ia rb s
  | .iovl ia ib => Sys2Proof.Machine.execIovl ia ib s
  | .iint id ia ib => Sys2Proof.Machine.execIint id ia ib s
  | .iunion id ia ib => Sys2Proof.Machine.execIunion id ia ib s
  | .imtv rd ia ib => Sys2Proof.Machine.execImtv rd ia ib s
  | .ieq ia ib => Sys2Proof.Machine.execIeq ia ib s
  | .isetlo id ia rb => Sys2Proof.Machine.execIsetlo id ia rb s
  | .isetlou id ia rb => Sys2Proof.Machine.execIsetlou id ia rb s
  | .isethi id ia rb => Sys2Proof.Machine.execIsethi id ia rb s
  | .isethiu id ia rb => Sys2Proof.Machine.execIsethiu id ia rb s
  | .iaddlo id ia rb => Sys2Proof.Machine.execIaddlo id ia rb s
  | .iaddlou id ia rb => Sys2Proof.Machine.execIaddlou id ia rb s
  | .iaddhi id ia rb => Sys2Proof.Machine.execIaddhi id ia rb s
  | .iaddhiu id ia rb => Sys2Proof.Machine.execIaddhiu id ia rb s
  | .itrans id ia rb => Sys2Proof.Machine.execItrans id ia rb s
  | .itransu id ia rb => Sys2Proof.Machine.execItransu id ia rb s

end Sys2Proof.Machine
end

