-- ==== Sys2Proof/Machine/Parameters.lean ====
section
/-! DEFINITION. Sys2Proof/Machine/Parameters.lean: execution for a setting of the parameters, taken as an argument (rules R6,
R30, R33, R207).  `exec` (Machine/Dispatch.lean) is this at the defaults: `execWith config` (Laws/Ops.lean, `execWith_config`).

The commands that read a parameter are `LDC`, `LN`, `POW2`, `POW`, the eight of spec/44_trig.md and `IUNION` (rules R29, R207). -/

namespace Sys2Proof.Machine

/-- One arm per command of rule R64, the parameters as an argument. -/
def execWith (p : Config) (i : Instr) (s : State) : Host.Outcome State Fault Refusal :=
  match i with
  | .wrr rd => execWrr rd s
  | .rdr ra => execRdr ra s
  | .wri rd => execWri rd s
  | .rdi ra => execRdi ra s
  | .ldc rd k => execLdcWith p rd k s
  | .mov rd ra => execMov rd ra s
  | .rdstat => execRdstat s
  | .clrerr => execClrerr s
  | .add rd ra rb => execAdd rd ra rb s
  | .sub rd ra rb => execSub rd ra rb s
  | .mul rd ra rb => execMul rd ra rb s
  | .div rd ra rb => execDiv rd ra rb s
  | .mod rd ra rb => execMod rd ra rb s
  | .neg rd ra => execNeg rd ra s
  | .abs rd ra => execAbs rd ra s
  | .sign rd ra => execSign rd ra s
  | .fadd rd ra rb => execFadd rd ra rb s
  | .fsub rd ra rb => execFsub rd ra rb s
  | .fmul rd ra rb => execFmul rd ra rb s
  | .fmod rd ra rb => execFmod rd ra rb s
  | .fabs rd ra => execFabs rd ra s
  | .floor rd ra => execFloor rd ra s
  | .ceil rd ra => execCeil rd ra s
  | .round rd ra => execRound rd ra s
  | .frac rd ra => execFrac rd ra s
  | .hasfrac ra => execHasfrac ra s
  | .cmpeq ra rb => execCmpeq ra rb s
  | .cmpne ra rb => execCmpne ra rb s
  | .cmplt ra rb => execCmplt ra rb s
  | .cmpgt ra rb => execCmpgt ra rb s
  | .cmple ra rb => execCmple ra rb s
  | .cmpge ra rb => execCmpge ra rb s
  | .sqrt rd ra => execSqrt rd ra s
  | .log2 rd ra => execLog2 rd ra s
  | .ln rd ra => execLnWith p rd ra s
  | .pow2 rd ra => execPow2With p rd ra s
  | .pow rd ra rb => execPowWith p rd ra rb s
  | .sin rd ra => execSinWith p rd ra s
  | .cos rd ra => execCosWith p rd ra s
  | .tan rd ra => execTanWith p rd ra s
  | .atan rd ra => execAtanWith p rd ra s
  | .acos rd ra => execAcosWith p rd ra s
  | .atan2 rd ra rb => execAtan2With p rd ra rb s
  | .todeg rd ra => execTodegWith p rd ra s
  | .torad rd ra => execToradWith p rd ra s
  | .icreate id ra rb => execIcreate id ra rb s
  | .icreateu id ra rb => execIcreateu id ra rb s
  | .iovlv ia rb => execIovlv ia rb s
  | .iovl ia ib => execIovl ia ib s
  | .iint id ia ib => execIint id ia ib s
  | .iunion id ia ib => execIunionWith p id ia ib s
  | .imtv rd ia ib => execImtv rd ia ib s
  | .ieq ia ib => execIeq ia ib s
  | .isetlo id ia rb => execIsetlo id ia rb s
  | .isetlou id ia rb => execIsetlou id ia rb s
  | .isethi id ia rb => execIsethi id ia rb s
  | .isethiu id ia rb => execIsethiu id ia rb s
  | .iaddlo id ia rb => execIaddlo id ia rb s
  | .iaddlou id ia rb => execIaddlou id ia rb s
  | .iaddhi id ia rb => execIaddhi id ia rb s
  | .iaddhiu id ia rb => execIaddhiu id ia rb s
  | .itrans id ia rb => execItrans id ia rb s
  | .itransu id ia rb => execItransu id ia rb s

end Sys2Proof.Machine
end

