-- ==== Sys2Proof/Machine/Control.lean ====
section
/-! DEFINITION. Sys2Proof/Machine/Control.lean: the unit's step on one command (rules R60, R65, R71, R245, R246).

What executes a decoded command is an argument: `exec`, or `execWith p` for another setting of the parameters. -/

namespace Sys2Proof.Machine

/-- Rule R71 for the command at the port: blocked first, then decoding (an illegal word raises IllegalCommand), then the
command's own rule, by `ex`. -/
def runCommand (ex : Instr → State → Host.Outcome State Fault Refusal) (s : State) : Host.Outcome State Fault Refusal :=
  if s.blocks then .next s.answerBlocked
  else
    match decode s.issued.cmd with
    | none   => .next (s.raise .illegalCommand)
    | some i => ex i s

/-- One action of the host: a command is presented and run, or reset is asserted (rules R20, R256, R270). -/
def runAction (ex : Instr → State → Host.Outcome State Fault Refusal) (a : HostAction) (s : State) :
    Host.Outcome State Fault Refusal :=
  match a with
  | .issue c => runCommand ex (s.present c)
  | .reset   => .next s.assertReset

/-- The host's next action; with none left the unit is idle and keeps all state (rules R255, R256, R275). -/
def runNext (ex : Instr → State → Host.Outcome State Fault Refusal) (s : State) : Host.Outcome State Fault Refusal :=
  match s.takeAction with
  | none         => .next s
  | some (a, s') => runAction ex a s'

/-- One step for a setting of the parameters (rule R33: "parameters of the step function, not state"). -/
def stepWith (p : Config) (s : State) : Host.Outcome State Fault Refusal := runNext (execWith p) s

end Sys2Proof.Machine
end

