-- ==== Sys2Proof/Machine/Step.lean ====
section
/-! DEFINITION. Sys2Proof/Machine/Step.lean: one step of the machine, and the host's next command placed by hand. -/

namespace Sys2Proof.Machine

/-- One step: one command of the host run to completion, one reset, or nothing (rules R20, R50, R60, R71), the parameters at
their defaults; `stepWith` (Machine/Control.lean) takes them as an argument. -/
def step (s : State) : Host.Outcome State Fault Refusal := runNext exec s

/-- `s` with the command of word `w` (and `wdata` = 0) as the next thing the host issues (assumption 3). -/
def State.withFetchWord (s : State) (nbits w : Nat) : State :=
  { s with pending := .issue { cmd := BitVec.ofNat 32 (w % 2 ^ nbits), wdata := 0#64 } :: s.pending }

end Sys2Proof.Machine
end

