-- ==== Sys2Proof/Machine/Assembly.lean ====
section
/-! DEFINITION. Sys2Proof/Machine/Assembly.lean: the assembly notation and the pseudo-instructions (rules R68, R69).  The
machine runs command words only; this file says what words a line or a pseudo-instruction stands for. -/

namespace Sys2Proof.Machine

/-! ## Assembly lines (rule R68) -/

/-- An operand of a line. -/
inductive AsmOperand where
  /-- a scalar register, written `f0` to `f15` -/
  | f (r : Reg)
  /-- a pair, written `i0` to `i7` -/
  | i (p : Pair)
  /-- the constant of `LDC`, written `#` and its index -/
  | const (k : BitVec 8)
  /-- the write data of `WRR` and `WRI`, written with a leading `=` -/
  | data (wdata : BitVec 64)
  deriving DecidableEq, Repr

/-- The operands in the word, in the order rule R64 gives them: destination first. -/
def asmOperands : Instr → List AsmOperand
  | .wrr rd => [.f rd]
  | .rdr ra => [.f ra]
  | .wri rd => [.f rd]
  | .rdi ra => [.f ra]
  | .ldc rd k => [.f rd, .const k]
  | .mov rd ra => [.f rd, .f ra]
  | .rdstat => []
  | .clrerr => []
  | .add rd ra rb => [.f rd, .f ra, .f rb]
  | .sub rd ra rb => [.f rd, .f ra, .f rb]
  | .mul rd ra rb => [.f rd, .f ra, .f rb]
  | .div rd ra rb => [.f rd, .f ra, .f rb]
  | .mod rd ra rb => [.f rd, .f ra, .f rb]
  | .neg rd ra => [.f rd, .f ra]
  | .abs rd ra => [.f rd, .f ra]
  | .sign rd ra => [.f rd, .f ra]
  | .fadd rd ra rb => [.f rd, .f ra, .f rb]
  | .fsub rd ra rb => [.f rd, .f ra, .f rb]
  | .fmul rd ra rb => [.f rd, .f ra, .f rb]
  | .fmod rd ra rb => [.f rd, .f ra, .f rb]
  | .fabs rd ra => [.f rd, .f ra]
  | .floor rd ra => [.f rd, .f ra]
  | .ceil rd ra => [.f rd, .f ra]
  | .round rd ra => [.f rd, .f ra]
  | .frac rd ra => [.f rd, .f ra]
  | .hasfrac ra => [.f ra]
  | .cmpeq ra rb => [.f ra, .f rb]
  | .cmpne ra rb => [.f ra, .f rb]
  | .cmplt ra rb => [.f ra, .f rb]
  | .cmpgt ra rb => [.f ra, .f rb]
  | .cmple ra rb => [.f ra, .f rb]
  | .cmpge ra rb => [.f ra, .f rb]
  | .sqrt rd ra => [.f rd, .f ra]
  | .log2 rd ra => [.f rd, .f ra]
  | .ln rd ra => [.f rd, .f ra]
  | .pow2 rd ra => [.f rd, .f ra]
  | .pow rd ra rb => [.f rd, .f ra, .f rb]
  | .sin rd ra => [.f rd, .f ra]
  | .cos rd ra => [.f rd, .f ra]
  | .tan rd ra => [.f rd, .f ra]
  | .atan rd ra => [.f rd, .f ra]
  | .acos rd ra => [.f rd, .f ra]
  | .atan2 rd ra rb => [.f rd, .f ra, .f rb]
  | .todeg rd ra => [.f rd, .f ra]
  | .torad rd ra => [.f rd, .f ra]
  | .icreate id ra rb => [.i id, .f ra, .f rb]
  | .icreateu id ra rb => [.i id, .f ra, .f rb]
  | .iovlv ia rb => [.i ia, .f rb]
  | .iovl ia ib => [.i ia, .i ib]
  | .iint id ia ib => [.i id, .i ia, .i ib]
  | .iunion id ia ib => [.i id, .i ia, .i ib]
  | .imtv rd ia ib => [.f rd, .i ia, .i ib]
  | .ieq ia ib => [.i ia, .i ib]
  | .isetlo id ia rb => [.i id, .i ia, .f rb]
  | .isetlou id ia rb => [.i id, .i ia, .f rb]
  | .isethi id ia rb => [.i id, .i ia, .f rb]
  | .isethiu id ia rb => [.i id, .i ia, .f rb]
  | .iaddlo id ia rb => [.i id, .i ia, .f rb]
  | .iaddlou id ia rb => [.i id, .i ia, .f rb]
  | .iaddhi id ia rb => [.i id, .i ia, .f rb]
  | .iaddhiu id ia rb => [.i id, .i ia, .f rb]
  | .itrans id ia rb => [.i id, .i ia, .f rb]
  | .itransu id ia rb => [.i id, .i ia, .f rb]

/-- The line of a command: its mnemonic and its operands; the write data stands last, in `WRR` and `WRI` only. -/
def asmLine (i : Instr) (wdata : BitVec 64) : String × List AsmOperand :=
  match i with
  | .wrr rd => ("WRR", [.f rd, .data wdata])
  | .wri rd => ("WRI", [.f rd, .data wdata])
  | i => (i.row.mnemonic, asmOperands i)

/-- The names of the constants, by index, for `#<name>` (rules R30, R68). -/
def constNames : List String :=
  ["Zero", "One", "MinusOne", "Two", "Half", "MinValue", "MaxValue", "Pi", "PiOver2", "PiTimes2", "PiInv", "E",
   "FullRot", "HalfRot", "QuarterRot", "EighthRot", "PrecisionUnit", "Ln2", "Log2Max", "Rad2Deg", "Three"]

/-- An operand as it is written; write data in hexadecimal. -/
def AsmOperand.text : AsmOperand → String
  | .f r => "f" ++ toString r.val
  | .i p => "i" ++ toString p.val
  | .const k => "#" ++ toString k.toNat
  | .data w => "=0x" ++ String.ofList (Nat.toDigits 16 w.toNat)

/-- A line as it is written: the mnemonic, then the operands separated by commas. -/
def asmText (i : Instr) (wdata : BitVec 64) : String :=
  let line := asmLine i wdata
  match line.2 with
  | [] => line.1
  | ops => line.1 ++ " " ++ ", ".intercalate (ops.map AsmOperand.text)

/-! ## Pseudo-instructions (rule R69) -/

/-- The pseudo-instructions that expand (`RECIP` is "not provided"). -/
inductive Pseudo where
  | imov (id ia : Pair)
  | iwr (id : Pair) (lo hi : BitVec 64)
  | ird (ia : Pair)
  | ldz (rd : Reg)
  | ld1 (rd : Reg)
  deriving DecidableEq, Repr

/-- The register numbers of a pair's two halves, as rule R69 writes them: `f[2k]` and `f[2k+1]`. -/
def halfRegs (p : Pair) : Reg × Reg := (⟨2 * p.val, by omega⟩, ⟨2 * p.val + 1, by omega⟩)

/-- A command with no write data. -/
def plainCommand (i : Instr) : Command := ⟨encode i, 0#64⟩

/-- The expansion column of rule R69. -/
def Pseudo.expand : Pseudo → List Command
  | .imov id ia => [plainCommand (.mov (halfRegs id).1 (halfRegs ia).1), plainCommand (.mov (halfRegs id).2 (halfRegs ia).2)]
  | .iwr id lo hi => [⟨encode (.wrr (halfRegs id).1), lo⟩, ⟨encode (.wrr (halfRegs id).2), hi⟩]
  | .ird ia => [plainCommand (.rdr (halfRegs ia).1), plainCommand (.rdr (halfRegs ia).2)]
  | .ldz rd => [plainCommand (.ldc rd 0#8)]
  | .ld1 rd => [plainCommand (.ldc rd 1#8)]

end Sys2Proof.Machine
end

