-- ==== Sys2Proof/Safety.lean ====
section
/-! DEFINITION. Sys2Proof/Safety.lean: the terms the claims use: what a command reads and writes, what it may raise (rule
R241), which state a run keeps, what counts as a completed run (rule R275), and the shapes an effect can have.

An effect is said observationally: the registers, `FSTAT`, `FCMD`, the response and the host's side of the port, each of
them, so that a shape leaves no part of the state out. -/

namespace Sys2Proof.Machine

/-! ## What a command touches -/

/-- The source registers the command's format names (rule R71 step 3); a pair is two of them. -/
def reads : Instr → List Reg
  | .wrr _ => []
  | .rdr ra => [ra]
  | .wri _ => []
  | .rdi ra => [ra]
  | .ldc _ _ => []
  | .mov _ ra => [ra]
  | .rdstat => []
  | .clrerr => []
  | .add _ ra rb => [ra, rb]
  | .sub _ ra rb => [ra, rb]
  | .mul _ ra rb => [ra, rb]
  | .div _ ra rb => [ra, rb]
  | .mod _ ra rb => [ra, rb]
  | .neg _ ra => [ra]
  | .abs _ ra => [ra]
  | .sign _ ra => [ra]
  | .fadd _ ra rb => [ra, rb]
  | .fsub _ ra rb => [ra, rb]
  | .fmul _ ra rb => [ra, rb]
  | .fmod _ ra rb => [ra, rb]
  | .fabs _ ra => [ra]
  | .floor _ ra => [ra]
  | .ceil _ ra => [ra]
  | .round _ ra => [ra]
  | .frac _ ra => [ra]
  | .hasfrac ra => [ra]
  | .cmpeq ra rb => [ra, rb]
  | .cmpne ra rb => [ra, rb]
  | .cmplt ra rb => [ra, rb]
  | .cmpgt ra rb => [ra, rb]
  | .cmple ra rb => [ra, rb]
  | .cmpge ra rb => [ra, rb]
  | .sqrt _ ra => [ra]
  | .log2 _ ra => [ra]
  | .ln _ ra => [ra]
  | .pow2 _ ra => [ra]
  | .pow _ ra rb => [ra, rb]
  | .sin _ ra => [ra]
  | .cos _ ra => [ra]
  | .tan _ ra => [ra]
  | .atan _ ra => [ra]
  | .acos _ ra => [ra]
  | .atan2 _ ra rb => [ra, rb]
  | .todeg _ ra => [ra]
  | .torad _ ra => [ra]
  | .icreate _ ra rb => [ra, rb]
  | .icreateu _ ra rb => [ra, rb]
  | .iovlv ia rb => [lowerReg ia, upperReg ia, rb]
  | .iovl ia ib => [lowerReg ia, upperReg ia, lowerReg ib, upperReg ib]
  | .iint _ ia ib => [lowerReg ia, upperReg ia, lowerReg ib, upperReg ib]
  | .iunion _ ia ib => [lowerReg ia, upperReg ia, lowerReg ib, upperReg ib]
  | .imtv _ ia ib => [lowerReg ia, upperReg ia, lowerReg ib, upperReg ib]
  | .ieq ia ib => [lowerReg ia, upperReg ia, lowerReg ib, upperReg ib]
  | .isetlo _ ia rb => [lowerReg ia, upperReg ia, rb]
  | .isetlou _ ia rb => [lowerReg ia, upperReg ia, rb]
  | .isethi _ ia rb => [lowerReg ia, upperReg ia, rb]
  | .isethiu _ ia rb => [lowerReg ia, upperReg ia, rb]
  | .iaddlo _ ia rb => [lowerReg ia, upperReg ia, rb]
  | .iaddlou _ ia rb => [lowerReg ia, upperReg ia, rb]
  | .iaddhi _ ia rb => [lowerReg ia, upperReg ia, rb]
  | .iaddhiu _ ia rb => [lowerReg ia, upperReg ia, rb]
  | .itrans _ ia rb => [lowerReg ia, upperReg ia, rb]
  | .itransu _ ia rb => [lowerReg ia, upperReg ia, rb]

/-- The destination registers the command's format names (rules R11, R61). -/
def writes : Instr → List Reg
  | .wrr rd => [rd]
  | .rdr _ => []
  | .wri rd => [rd]
  | .rdi _ => []
  | .ldc rd _ => [rd]
  | .mov rd _ => [rd]
  | .rdstat => []
  | .clrerr => []
  | .add rd _ _ => [rd]
  | .sub rd _ _ => [rd]
  | .mul rd _ _ => [rd]
  | .div rd _ _ => [rd]
  | .mod rd _ _ => [rd]
  | .neg rd _ => [rd]
  | .abs rd _ => [rd]
  | .sign rd _ => [rd]
  | .fadd rd _ _ => [rd]
  | .fsub rd _ _ => [rd]
  | .fmul rd _ _ => [rd]
  | .fmod rd _ _ => [rd]
  | .fabs rd _ => [rd]
  | .floor rd _ => [rd]
  | .ceil rd _ => [rd]
  | .round rd _ => [rd]
  | .frac rd _ => [rd]
  | .hasfrac _ => []
  | .cmpeq _ _ => []
  | .cmpne _ _ => []
  | .cmplt _ _ => []
  | .cmpgt _ _ => []
  | .cmple _ _ => []
  | .cmpge _ _ => []
  | .sqrt rd _ => [rd]
  | .log2 rd _ => [rd]
  | .ln rd _ => [rd]
  | .pow2 rd _ => [rd]
  | .pow rd _ _ => [rd]
  | .sin rd _ => [rd]
  | .cos rd _ => [rd]
  | .tan rd _ => [rd]
  | .atan rd _ => [rd]
  | .acos rd _ => [rd]
  | .atan2 rd _ _ => [rd]
  | .todeg rd _ => [rd]
  | .torad rd _ => [rd]
  | .icreate id _ _ => [lowerReg id, upperReg id]
  | .icreateu id _ _ => [lowerReg id, upperReg id]
  | .iovlv _ _ => []
  | .iovl _ _ => []
  | .iint id _ _ => [lowerReg id, upperReg id]
  | .iunion id _ _ => [lowerReg id, upperReg id]
  | .imtv rd _ _ => [rd]
  | .ieq _ _ => []
  | .isetlo id _ _ => [lowerReg id, upperReg id]
  | .isetlou id _ _ => [lowerReg id, upperReg id]
  | .isethi id _ _ => [lowerReg id, upperReg id]
  | .isethiu id _ _ => [lowerReg id, upperReg id]
  | .iaddlo id _ _ => [lowerReg id, upperReg id]
  | .iaddlou id _ _ => [lowerReg id, upperReg id]
  | .iaddhi id _ _ => [lowerReg id, upperReg id]
  | .iaddhiu id _ _ => [lowerReg id, upperReg id]
  | .itrans id _ _ => [lowerReg id, upperReg id]
  | .itransu id _ _ => [lowerReg id, upperReg id]

/-- The commands rule R25 lists: exactly these write `T`. -/
def writesTruth : Instr → Bool
  | .wrr _ => false
  | .rdr _ => false
  | .wri _ => false
  | .rdi _ => false
  | .ldc _ _ => false
  | .mov _ _ => false
  | .rdstat => false
  | .clrerr => false
  | .add _ _ _ => false
  | .sub _ _ _ => false
  | .mul _ _ _ => false
  | .div _ _ _ => false
  | .mod _ _ _ => false
  | .neg _ _ => false
  | .abs _ _ => false
  | .sign _ _ => false
  | .fadd _ _ _ => false
  | .fsub _ _ _ => false
  | .fmul _ _ _ => false
  | .fmod _ _ _ => false
  | .fabs _ _ => false
  | .floor _ _ => false
  | .ceil _ _ => false
  | .round _ _ => false
  | .frac _ _ => false
  | .hasfrac _ => true
  | .cmpeq _ _ => true
  | .cmpne _ _ => true
  | .cmplt _ _ => true
  | .cmpgt _ _ => true
  | .cmple _ _ => true
  | .cmpge _ _ => true
  | .sqrt _ _ => false
  | .log2 _ _ => false
  | .ln _ _ => false
  | .pow2 _ _ => false
  | .pow _ _ _ => false
  | .sin _ _ => false
  | .cos _ _ => false
  | .tan _ _ => false
  | .atan _ _ => false
  | .acos _ _ => false
  | .atan2 _ _ _ => false
  | .todeg _ _ => false
  | .torad _ _ => false
  | .icreate _ _ _ => false
  | .icreateu _ _ _ => false
  | .iovlv _ _ => true
  | .iovl _ _ => true
  | .iint _ _ _ => true
  | .iunion _ _ _ => false
  | .imtv _ _ _ => false
  | .ieq _ _ => true
  | .isetlo _ _ _ => false
  | .isetlou _ _ _ => false
  | .isethi _ _ _ => false
  | .isethiu _ _ _ => false
  | .iaddlo _ _ _ => false
  | .iaddlou _ _ _ => false
  | .iaddhi _ _ _ => false
  | .iaddhiu _ _ _ => false
  | .itrans _ _ _ => false
  | .itransu _ _ _ => false

/-- Rule R241's table: what a well-formed command can raise. -/
def mayRaise : Instr → List Cause
  | .wrr _ => []
  | .rdr _ => []
  | .wri _ => []
  | .rdi _ => []
  | .ldc _ _ => []
  | .mov _ _ => []
  | .rdstat => []
  | .clrerr => []
  | .add _ _ _ => []
  | .sub _ _ _ => []
  | .mul _ _ _ => []
  | .div _ _ _ => [.divisionByZero]
  | .mod _ _ _ => [.divisionByZero]
  | .neg _ _ => []
  | .abs _ _ => []
  | .sign _ _ => []
  | .fadd _ _ _ => []
  | .fsub _ _ _ => []
  | .fmul _ _ _ => []
  | .fmod _ _ _ => [.fastFault]
  | .fabs _ _ => []
  | .floor _ _ => []
  | .ceil _ _ => []
  | .round _ _ => []
  | .frac _ _ => []
  | .hasfrac _ => []
  | .cmpeq _ _ => []
  | .cmpne _ _ => []
  | .cmplt _ _ => []
  | .cmpgt _ _ => []
  | .cmple _ _ => []
  | .cmpge _ _ => []
  | .sqrt _ _ => [.domainError]
  | .log2 _ _ => [.domainError]
  | .ln _ _ => [.domainError]
  | .pow2 _ _ => []
  | .pow _ _ _ => [.divisionByZero, .domainError]
  | .sin _ _ => []
  | .cos _ _ => []
  | .tan _ _ => []
  | .atan _ _ => []
  | .acos _ _ => [.domainError]
  | .atan2 _ _ _ => []
  | .todeg _ _ => []
  | .torad _ _ => []
  | .icreate _ _ _ => []
  | .icreateu _ _ _ => []
  | .iovlv _ _ => []
  | .iovl _ _ => []
  | .iint _ _ _ => []
  | .iunion _ _ _ => []
  | .imtv _ _ _ => []
  | .ieq _ _ => []
  | .isetlo _ _ _ => []
  | .isetlou _ _ _ => []
  | .isethi _ _ _ => []
  | .isethiu _ _ _ => []
  | .iaddlo _ _ _ => []
  | .iaddlou _ _ _ => []
  | .iaddhi _ _ _ => []
  | .iaddhiu _ _ _ => []
  | .itrans _ _ _ => []
  | .itransu _ _ _ => []

/-! ## Illegal words, field by field (rules R61, R65) -/

/-- What a format does with a register field: a scalar register, a pair, or not used. -/
inductive FieldUse where
  | scalar | pair | unused
  deriving DecidableEq, Repr

/-- The `rd`, `ra`, `rb` columns of rule R61's format table. -/
def formatUse : Format → FieldUse × FieldUse × FieldUse
  | .z   => (.unused, .unused, .unused)
  | .d   => (.scalar, .unused, .unused)
  | .a   => (.unused, .scalar, .unused)
  | .dc  => (.scalar, .unused, .unused)
  | .da  => (.scalar, .scalar, .unused)
  | .dab => (.scalar, .scalar, .scalar)
  | .ab  => (.unused, .scalar, .scalar)
  | .pss => (.pair, .scalar, .scalar)
  | .xps => (.unused, .pair, .scalar)
  | .xpp => (.unused, .pair, .pair)
  | .ppp => (.pair, .pair, .pair)
  | .spp => (.scalar, .pair, .pair)
  | .pps => (.pair, .pair, .scalar)

/-- A register field that breaks its use: an unused one that is not zero, or a pair that is odd. -/
def fieldWrong (u : FieldUse) (b : BitVec 4) : Prop :=
  (u = .unused ∧ b ≠ 0#4) ∨ (u = .pair ∧ b.toNat % 2 = 1)

/-- Rule R65's conditions, in its order: "A command word is *illegal* when any of these holds". -/
def IllegalWord (w : CmdWord) : Prop :=
  (∀ row ∈ opcodeTable, row.op ≠ opField w) ∨
  zField w ≠ 0#4 ∨
  (imm8Field w ≠ 0#8 ∧ opField w ≠ 0x05#8) ∨
  (opField w = 0x05#8 ∧ (imm8Field w).toNat > 20) ∨
  (∃ row ∈ opcodeTable, row.op = opField w ∧
    (fieldWrong (formatUse row.format).1 (rdField w) ∨
     fieldWrong (formatUse row.format).2.1 (raField w) ∨
     fieldWrong (formatUse row.format).2.2 (rbField w)))

/-! ## The shapes of an effect

Each shape is said of what executes the command, `ex`: the shapes with `By` are used for `execWith p`, the others are those
of `exec`. -/

/-- What executes a decoded command: `exec`, or `execWith p`. -/
abbrev Executor := Instr → State → Host.Outcome State Fault Refusal

/-- `ex` answers `t`, with one response; the command at the port, the host's list and the free values are as before. -/
def AnswersBy (ex : Executor) (i : Instr) (s : State) (resp : BitVec 4) (rdata : BitVec 64) (t : State) : Prop :=
  ex i s = .next t ∧ t.responses = ⟨resp, rdata⟩ :: s.responses ∧
  t.issued = s.issued ∧ t.pending = s.pending ∧ t.freeNext = s.freeNext

/-- The command completes and its only effect is `f[rd] = v`. -/
def WritesScalarBy (ex : Executor) (i : Instr) (s : State) (rd : Reg) (v : Scalar) : Prop :=
  ∃ t, AnswersBy ex i s respOk 0#64 t ∧ t.getF rd = v ∧ (∀ r, r ≠ rd → t.getF r = s.getF r) ∧
    t.fstat = s.fstat ∧ t.fcmd = s.fcmd

/-- The command completes and its only effect is on the pair: `Lower` is `lo`, `Upper` is `hi`. -/
def WritesPairBy (ex : Executor) (i : Instr) (s : State) (pd : Pair) (lo hi : Scalar) : Prop :=
  ∃ t, AnswersBy ex i s respOk 0#64 t ∧ t.getF (lowerReg pd) = lo ∧ t.getF (upperReg pd) = hi ∧
    (∀ r, r ≠ lowerReg pd → r ≠ upperReg pd → t.getF r = s.getF r) ∧ t.fstat = s.fstat ∧ t.fcmd = s.fcmd

/-- `exec` answers `t`, with one response; the rest of the port is as before. -/
def Answers (i : Instr) (s : State) (resp : BitVec 4) (rdata : BitVec 64) (t : State) : Prop :=
  AnswersBy Sys2Proof.Machine.exec i s resp rdata t

/-- The command completes and its only effect is `f[rd] = v`. -/
def WritesScalar (i : Instr) (s : State) (rd : Reg) (v : Scalar) : Prop :=
  WritesScalarBy Sys2Proof.Machine.exec i s rd v

/-- The command completes and its only effect is on the pair. -/
def WritesPair (i : Instr) (s : State) (pd : Pair) (lo hi : Scalar) : Prop :=
  WritesPairBy Sys2Proof.Machine.exec i s pd lo hi

/-- The command completes and its only effect is `T = b`. -/
def WritesTruth (i : Instr) (s : State) (b : Bool) : Prop :=
  ∃ t, Answers i s respOk 0#64 t ∧ (∀ r, t.getF r = s.getF r) ∧
    t.fstat.t = b ∧ t.fstat.err = s.fstat.err ∧ t.fstat.cause = s.fstat.cause ∧ t.fcmd = s.fcmd

/-- The command completes and its only effects are `T = b` and the pair. -/
def WritesPairAndTruth (i : Instr) (s : State) (pd : Pair) (lo hi : Scalar) (b : Bool) : Prop :=
  ∃ t, Answers i s respOk 0#64 t ∧ t.getF (lowerReg pd) = lo ∧ t.getF (upperReg pd) = hi ∧
    (∀ r, r ≠ lowerReg pd → r ≠ upperReg pd → t.getF r = s.getF r) ∧
    t.fstat.t = b ∧ t.fstat.err = s.fstat.err ∧ t.fstat.cause = s.fstat.cause ∧ t.fcmd = s.fcmd

/-- The command completes, answers `rdata`, and changes nothing in the unit. -/
def ReturnsData (i : Instr) (s : State) (rdata : BitVec 64) : Prop :=
  ∃ t, Answers i s respOk rdata t ∧ (∀ r, t.getF r = s.getF r) ∧ t.fstat = s.fstat ∧ t.fcmd = s.fcmd

/-- Rule R244, observed between two states: `t` is `s` after a raise of `c`. -/
def RaisedTo (s : State) (c : Cause) (t : State) : Prop :=
  t.responses = ⟨c.code, 0#64⟩ :: s.responses ∧ (∀ r, t.getF r = s.getF r) ∧
  t.fstat.t = s.fstat.t ∧ t.fstat.err = true ∧ t.fstat.cause = c.code ∧ t.fcmd = s.issued.cmd ∧
  t.issued = s.issued ∧ t.pending = s.pending ∧ t.freeNext = s.freeNext

/-- The command raises `c`. -/
def Raises (i : Instr) (s : State) (c : Cause) : Prop := ∃ t, exec i s = .next t ∧ RaisedTo s c t

/-! ## Invariants of a run -/

/-- What a latched cause says of the latched word (rules R27, R240 to R242). -/
def latchedBy (cause : BitVec 4) (w : CmdWord) : Prop :=
  (cause = Cause.illegalCommand.code ∧ decode w = none) ∨
  ∃ c i, cause = Cause.code c ∧ decode w = some i ∧ c ∈ mayRaise i

/-- `CAUSE` and `FCMD` are 0 when `ERR` = 0; when `ERR` = 1, `FCMD` is a word that can raise `CAUSE` (rules R26, R27, R241). -/
def LatchConsistent (s : State) : Prop :=
  (s.fstat.err = false → s.fstat.cause = 0#4 ∧ s.fcmd = 0#32) ∧
  (s.fstat.err = true → latchedBy s.fstat.cause s.fcmd)

/-- The response codes the unit produces (rule R70). -/
def producedCodes : List (BitVec 4) := [0x0#4, 0x1#4, 0x2#4, 0x3#4, 0x4#4, 0xF#4]

/-- Every response so far has a code that is produced, and `rdata` = 0 unless it is `OK` (rule R70). -/
def ResponsesLegal (s : State) : Prop :=
  ∀ r ∈ s.responses, r.resp ∈ producedCodes ∧ (r.resp ≠ respOk → r.rdata = 0#64)

/-- The invariant of a run. -/
def Inv (s : State) : Prop := LatchConsistent s ∧ ResponsesLegal s

/-! ## The outcome of a run (rule R275) -/

/-- The run so far has *completed*: every response was `OK`. -/
def Completed (s : State) : Prop := ∀ r ∈ s.responses, r.resp = respOk

/-- The `k`-th response of the run, the first being number 1 (95 section 3 counts so: program P3 faulted at 4, 9, 13, 16
and 18). -/
def responseAt (s : State) : Nat → Option Response
  | 0 => none
  | k + 1 => s.responses.reverse[k]?

/-- The run *faulted at k*: the `k`-th response was a cause code 1 to 4. -/
def FaultedAt (s : State) (k : Nat) : Prop := ∃ r, responseAt s k = some r ∧ ∃ c : Cause, r.resp = c.code

/-! ## Preconditions of the fast commands (rules R108 to R112, R114) -/

/-- An integer a scalar can hold. -/
def FitsS64 (z : Int) : Prop := -2 ^ 63 ≤ z ∧ z ≤ 2 ^ 63 - 1

/-- `sat64` on the integers (rule R8). -/
def clamp64 (z : Int) : Int := Max.max (-2 ^ 63) (Min.min (2 ^ 63 - 1) z)

/-- `r` is the truncated remainder of `a` by `b` (rule R8, `trem`): a multiple of `b` away, smaller than `b`, with the sign of
`a` or zero. -/
def IsTruncatedRemainder (a b r : Int) : Prop :=
  (∃ k, a = b * k + r) ∧ r.natAbs < b.natAbs ∧ (0 ≤ a → 0 ≤ r) ∧ (a ≤ 0 → r ≤ 0)

/-! ## The loops of the series commands, on integers

Each says what the rule's procedure gives, without the model's own functions: a sequence per variable of the loop, and the
step of the loop between one index and the next. -/

/-- `v` is what the procedure of rule R151 gives for `a > 0`.  `2^k` is the power of two at or below `a`, so `z` starts at
`a` shifted (low bits dropped) into `[One, Two)` and `y` at the exponent; then 32 passes, the weight of pass `n` being
`2^(31-n)`. -/
def IsLog2 (a v : Int) : Prop :=
  ∃ (k : Nat) (z y : Nat → Int), 2 ^ k ≤ a ∧ a < 2 ^ (k + 1) ∧
    z 0 = a * 2 ^ 32 / 2 ^ k ∧ y 0 = ((k : Int) - 32) * 2 ^ 32 ∧
    (∀ n, n < 32 →
      (z n * z n / 2 ^ 32 < 2 * 2 ^ 32 → z (n + 1) = z n * z n / 2 ^ 32 ∧ y (n + 1) = y n) ∧
      (2 * 2 ^ 32 ≤ z n * z n / 2 ^ 32 → z (n + 1) = z n * z n / 2 ^ 32 / 2 ∧ y (n + 1) = y n + 2 ^ (31 - n))) ∧
    v = y 32

/-- The quotient of two integers, `0 ≤ a` and `0 < b`, rounded to nearest, ties upward: what `DIV` gives (rule R103), the
fraction bits apart. -/
def roundedQuotient (a b : Int) : Int := (2 * a + b) / (2 * b)

/-- `r` is what the loop of rule R153 leaves in `result` for the fractional part `fr`: `term` and `result` start at `One`,
pass `i` makes `term = DIV(FMUL(FMUL(fr, term), Ln2), i·One)` and adds it, and the loop ends when `term` is 0. -/
def IsPow2Series (ln2 fr r : Int) : Prop :=
  ∃ (term result : Nat → Int) (n : Nat), term 0 = 2 ^ 32 ∧ result 0 = 2 ^ 32 ∧
    (∀ i, i < n → term i ≠ 0 ∧
      term (i + 1) = roundedQuotient (fr * term i / 2 ^ 32 * ln2 / 2 ^ 32) (i + 1) ∧
      result (i + 1) = clamp64 (result i + term (i + 1))) ∧
    term n = 0 ∧ r = result n

/-- `r` is what rule R177 gives for `0 < z ≤ One`, before any inversion or sign.  `dividend` and `divisor` grow by `zSq2` and
`zSq12` in each pass; the loop ends after 28 passes or with a zero term; then the three operations in degrees. -/
def IsAtanUnit (rad2Deg z r : Int) : Prop :=
  ∃ (zSq zSqP1 : Int) (term sum dividend divisor : Nat → Int) (n : Nat),
    zSq = z * z / 2 ^ 32 ∧ zSqP1 = zSq + 2 ^ 32 ∧
    term 0 = 2 ^ 32 ∧ sum 0 = 2 ^ 32 ∧ dividend 0 = zSq * 2 ∧ divisor 0 = zSqP1 * 3 ∧
    (∀ i, i < n → term i ≠ 0 ∧
      term (i + 1) = term i * roundedQuotient (dividend i * 2 ^ 32) (divisor i) / 2 ^ 32 ∧
      sum (i + 1) = sum i + term (i + 1) ∧
      dividend (i + 1) = dividend i + zSq * 2 ∧ divisor (i + 1) = divisor i + zSqP1 * 2) ∧
    n ≤ 28 ∧ (n = 28 ∨ term n = 0) ∧
    r = roundedQuotient (sum n * z / 2 ^ 32 * rad2Deg / 2 ^ 32 * 2 ^ 32) zSqP1

/-- `v` is what rule R176 gives for the angle `a`: `r` is `a` less a multiple of 180°, in `[-90°, 90°]`, with the sign of `a`
at the two ends; the ends are the poles, all else the table's entry with the sign of `r`. -/
def IsTangent (table : Nat → Scalar) (a : Int) (v : Scalar) : Prop :=
  ∃ r : Int, (180 * 2 ^ 32 : Int) ∣ a - r ∧ -(90 * 2 ^ 32) ≤ r ∧ r ≤ 90 * 2 ^ 32 ∧
    (r = 90 * 2 ^ 32 → 0 < a ∧ v = constMaxValue) ∧
    (r = -(90 * 2 ^ 32) → a < 0 ∧ v = constMinValue) ∧
    (0 ≤ r → r < 90 * 2 ^ 32 → v = table (r.natAbs / 2 ^ 22)) ∧
    (-(90 * 2 ^ 32) < r → r < 0 → v.toInt = clamp64 (-(table (r.natAbs / 2 ^ 22)).toInt))

/-! ## Intervals and the command at the port -/

/-- `(lo, hi)` is `sort(u, v)` (rule R201). -/
def IsSorted (u v lo hi : Scalar) : Prop :=
  lo.toInt ≤ hi.toInt ∧ ((lo = u ∧ hi = v) ∨ (lo = v ∧ hi = u))

/-- The state in which the unit runs command `c`, the host's next action (rule R60). -/
def State.running (s : State) (c : Command) (rest : List HostAction) : State := { s with issued := c, pending := rest }

/-- An ordered interval (rule R200). -/
def Ordered (a : Interval) : Prop := a.lo.toInt ≤ a.hi.toInt

/-- `v` is in the closed interval. -/
def Within (v : Scalar) (a : Interval) : Prop := a.lo.toInt ≤ v.toInt ∧ v.toInt ≤ a.hi.toInt

end Sys2Proof.Machine
end

