-- ==== Sys2Proof/Certificates/Slice0/Obligations.lean ====
section
/-! DEFINITION. Sys2Proof/Certificates/Slice0/Obligations.lean: the statements for the provers.

Each docstring names the rule of spec/ the statement formalises.  The shapes `WritesScalar`, `WritesPair`, `WritesTruth`,
`WritesPairAndTruth`, `ReturnsData`, `Raises` (Sys2Proof/Safety.lean) each say that `exec` answers a next state, what that
state holds, and that everything else is as before: they are completion, result and frame together. -/

open Sys2Proof Sys2Proof.Machine

/-! ## Encoding and decoding -/

/-- Rules R61, R62, R64: no bit of an encoding is dropped. -/
def Obligations.DecodeOfEncodeIsTheInstruction : Prop :=
  ∀ i : Instr, i.WellFormed → decode (encode i) = some i

/-- Rules R61, R62, R64, R65: a word that decodes is the one word of its command; no second spelling is accepted. -/
def Obligations.EncodeOfDecodeIsTheWord : Prop :=
  ∀ (w : CmdWord) (i : Instr), decode w = some i → i.WellFormed ∧ encode i = w

/-- Rule R65: the illegal words are exactly those with one of its conditions, and each raises IllegalCommand and changes
nothing but the latch; the all-zero and all-ones words are illegal. -/
def Obligations.IllegalWordRaisesIllegalCommand : Prop :=
  (∀ (s : State) (c : Command) (rest : List HostAction), s.pending = .issue c :: rest → s.fstat.err = false →
    (IllegalWord c.cmd → ∃ t, step s = .next t ∧ RaisedTo (s.running c rest) .illegalCommand t) ∧
    (¬ IllegalWord c.cmd → ∃ i, decode c.cmd = some i)) ∧
  IllegalWord 0x00000000#32 ∧ IllegalWord 0xFFFFFFFF#32

/-- A sanity check: words the spec writes out (rules R65, R68, R154, R179, R219; 95 section 2.7), at least one of each
family. -/
def Obligations.SampleWordsDecode : Prop :=
  decode 0x05100007#32 = some (.ldc 1 7#8) ∧ decode 0x08000000#32 = some .rdstat ∧
  decode 0x10312000#32 = some (.add 3 1 2) ∧ decode 0x2A045000#32 = some (.cmplt 4 5) ∧
  decode 0x34201000#32 = some (.pow 2 0 1) ∧ decode 0x45201000#32 = some (.atan2 2 0 1) ∧
  decode 0x54402000#32 = some (.iint 2 0 1) ∧ decode 0x61204000#32 = some (.itransu 1 0 4) ∧
  decode 0x05F00015#32 = none ∧ decode 0x54502000#32 = none ∧ decode 0x1B312000#32 = none

/-- Rule R71 step 2: at most one row of the table matches a word, and the decoder gives a command of the row that does. -/
def Obligations.AtMostOneRowMatches : Prop :=
  (∀ (w : CmdWord), ∀ a ∈ opcodeTable, ∀ b ∈ opcodeTable,
    fits a.format a.op w = true → fits b.format b.op w = true → a = b) ∧
  (∀ (w : CmdWord) (i : Instr), decode w = some i → i.row ∈ opcodeTable ∧ fits i.row.format i.row.op w = true)

/-! ## The step -/

/-- Rule R71 step 3: when the next command's word decodes and the unit is not blocked, the step is that command's
execution, with the command at the port and off the host's list; for every setting of the parameters (rules R6, R33), and
`exec` and `step` are those at the defaults. -/
def Obligations.StepRunsTheDecodedCommand : Prop :=
  (∀ (s : State) (c : Command) (rest : List HostAction) (i : Instr), s.pending = .issue c :: rest →
    (s.fstat.err = false ∨ c.cmd = 0x08000000#32 ∨ c.cmd = 0x09000000#32) →
    decode c.cmd = some i →
    step s = exec i (s.running c rest) ∧ ∀ p : Config, stepWith p s = execWith p i (s.running c rest)) ∧
  (∀ (i : Instr) (s : State), execWith config i s = exec i s) ∧ (∀ s : State, stepWith config s = step s)

/-- Rule R245: while `ERR` = 1 the two exact words run, and every other word is answered `BLOCKED` and changes nothing. -/
def Obligations.LatchedUnitAnswersBlocked : Prop :=
  ∀ (s : State) (c : Command) (rest : List HostAction), s.pending = .issue c :: rest → s.fstat.err = true →
    (c.cmd = 0x08000000#32 → step s = exec .rdstat (s.running c rest)) ∧
    (c.cmd = 0x09000000#32 → step s = exec .clrerr (s.running c rest)) ∧
    (c.cmd ≠ 0x08000000#32 → c.cmd ≠ 0x09000000#32 →
      ∃ t, step s = .next t ∧ t.responses = ⟨0xF#4, 0#64⟩ :: s.responses ∧ (∀ r, t.getF r = s.getF r) ∧
        t.fstat = s.fstat ∧ t.fcmd = s.fcmd ∧ t.issued = c ∧ t.pending = rest ∧ t.freeNext = s.freeNext)

/-- Rules R71, R256, R276: the step is total; no state, word or write data stops the machine, whatever the parameters. -/
def Obligations.EveryStepAnswersANextState : Prop :=
  (∀ s : State, ∃ t, step s = .next t) ∧ (∀ (p : Config) (s : State), ∃ t, stepWith p s = .next t)

/-- Rules R26, R27, R70, R241: `CAUSE` and `FCMD` are 0 when no error is latched; a latched word can raise the latched
cause; no code that is "never produced" is ever answered.  The parameters are at their defaults (assumption 4), as in every
statement about `exec` or `step`. -/
def Obligations.LatchAndResponsesStayConsistent : Prop :=
  ∀ s t : State, Inv s → step s = .next t → Inv t

/-- The invariant holds when reset ends. -/
def Obligations.LatchAndResponsesConsistentAtReset : Prop := Inv State.reset

/-- Rules R255, R275: with nothing issued the unit is idle and keeps all state. -/
def Obligations.IdleUnitKeepsItsState : Prop := ∀ s : State, s.pending = [] → step s = .next s

/-- Rule R271: the state when reset ends, at the start and when the host asserts reset between two commands.  Nothing is said
of `f0` to `f15`. -/
def Obligations.ResetClearsTheLatch : Prop :=
  (State.reset.fstat.word = 0#32 ∧ State.reset.fcmd = 0#32) ∧
  (∀ (s : State) (rest : List HostAction), s.pending = .reset :: rest →
    ∃ t, step s = .next t ∧ t.fstat.word = 0#32 ∧ t.fstat.t = false ∧ t.fstat.err = false ∧ t.fstat.cause = 0#4 ∧
      t.fcmd = 0#32 ∧ t.responses = s.responses ∧ t.pending = rest)

/-! ## Errors -/

/-- Rule R244: whatever raises, the raise records `ERR`, `CAUSE`, `FCMD` and nothing else, and the response is the cause's
code with `rdata` = 0. -/
def Obligations.RaiseRecordsOnlyTheLatch : Prop :=
  ∀ (s t : State) (c : Command) (rest : List HostAction) (k : Cause) (d : BitVec 64), s.pending = .issue c :: rest →
    step s = .next t → t.responses = ⟨k.code, d⟩ :: s.responses → RaisedTo (s.running c rest) k t

/-- Rule R241: a well-formed command completes, or raises a cause its row of the table lists; the parameters at their
defaults (assumption 4). -/
def Obligations.OnlyListedCommandsRaise : Prop :=
  ∀ (i : Instr) (s : State), i.WellFormed → ∃ t, exec i s = .next t ∧
    ((∃ d, t.responses = ⟨respOk, d⟩ :: s.responses) ∨ ∃ c ∈ mayRaise i, RaisedTo s c t)

/-- Rule R247: after a raise, `CLRERR` puts the unit back as it was before, and the same word raises the same cause again. -/
def Obligations.ReissueAfterClearRaisesTheSameCause : Prop :=
  ∀ (s t : State) (c : Command) (wd : BitVec 64) (rest : List HostAction) (k : Cause) (d : BitVec 64),
    s.pending = .issue c :: .issue ⟨0x09000000#32, wd⟩ :: .issue c :: rest →
    step s = .next t → t.responses = ⟨k.code, d⟩ :: s.responses →
    ∃ u v, step t = .next u ∧ u.fstat.err = false ∧ u.fstat.cause = 0#4 ∧ u.fcmd = 0#32 ∧
      u.fstat.t = s.fstat.t ∧ (∀ r, u.getF r = s.getF r) ∧
      step u = .next v ∧ RaisedTo (u.running c rest) k v

/-- Rules R245, R247: out of the blocked state there is only `CLRERR`, short of reset. -/
def Obligations.OnlyClrerrOrResetUnblocks : Prop :=
  ∀ s t : State, s.fstat.err = true → step s = .next t → t.fstat.err = false →
    ∃ rest, s.pending = .reset :: rest ∨ ∃ wd, s.pending = .issue ⟨0x09000000#32, wd⟩ :: rest

/-! ## What every command leaves alone -/

/-- Rules R11, R21, R25, R26, R244: a command changes no register its format does not name as its destination, `T` only if
it is one of rule R25's, the latch only by raising or, `CLRERR`, by clearing; it answers once. -/
def Obligations.CommandFrame : Prop :=
  ∀ (i : Instr) (s t : State), exec i s = .next t →
    (∀ r, r ∉ writes i → t.getF r = s.getF r) ∧
    (writesTruth i = false → t.fstat.t = s.fstat.t) ∧
    t.issued = s.issued ∧ t.pending = s.pending ∧ t.freeNext = s.freeNext ∧
    ∃ a : Response, t.responses = a :: s.responses ∧
      (a.resp ≠ respOk → ∃ c, RaisedTo s c t) ∧
      (a.resp = respOk → i ≠ .clrerr → t.fstat.err = s.fstat.err ∧ t.fstat.cause = s.fstat.cause ∧ t.fcmd = s.fcmd)

/-- Rule R25: `T` is written by exactly the eleven commands, read only by `RDSTAT`, kept by every raise and by `CLRERR`, and 0
at reset: changing `T` before any other command changes nothing after it but `T` itself. -/
def Obligations.TruthFlagWrittenAndReadAsListed : Prop :=
  (∀ (i : Instr) (s : State) (b : Bool), i ≠ .rdstat →
    ∃ t u, exec i s = .next t ∧ exec i (s.setT b) = .next u ∧ (∀ r, u.getF r = t.getF r) ∧
      u.responses = t.responses ∧ u.fcmd = t.fcmd ∧ u.fstat.err = t.fstat.err ∧ u.fstat.cause = t.fstat.cause ∧
      (writesTruth i = true → u.fstat.t = t.fstat.t) ∧ (writesTruth i = false → t.fstat.t = s.fstat.t ∧ u.fstat.t = b)) ∧
  (∀ (s : State) (c : Cause), (s.raise c).fstat.t = s.fstat.t) ∧ (∀ s : State, s.clearLatch.fstat.t = s.fstat.t) ∧
  State.reset.fstat.t = false

/-- Rules R113, R241: what a command answers and writes is a function of its word, its write data and the registers its
format names. -/
def Obligations.ResultDependsOnlyOnSources : Prop :=
  ∀ (i : Instr) (s₁ s₂ : State), i ≠ .rdstat → (∀ r ∈ reads i, s₁.getF r = s₂.getF r) → s₁.issued = s₂.issued →
    ∃ t₁ t₂ a, exec i s₁ = .next t₁ ∧ exec i s₂ = .next t₂ ∧
      t₁.responses = a :: s₁.responses ∧ t₂.responses = a :: s₂.responses ∧
      (a.resp = respOk → (∀ r ∈ writes i, t₁.getF r = t₂.getF r) ∧
        (writesTruth i = true → t₁.fstat.t = t₂.fstat.t))

/-- Rules R23, R272 (93 U1): a command that reads no register of `U` cannot tell two states apart that differ in `U` only;
they differ in `U` only afterwards, and no longer in a register the command wrote.  So what the model names the registers at
reset (assumption 1) is never seen by a host that writes each register before it reads it. -/
def Obligations.UnreadRegistersCannotBeSeen : Prop :=
  ∀ (s : State) (g : Vector Scalar 16) (U : Reg → Prop) (c : Command) (rest : List HostAction),
    s.pending = .issue c :: rest →
    (∀ r, ¬ U r → ({ s with f := g } : State).getF r = s.getF r) →
    (∀ i, decode c.cmd = some i → ∀ r ∈ reads i, ¬ U r) →
    ∃ t g', step s = .next t ∧ step { s with f := g } = .next { t with f := g' } ∧
      (∀ r, ¬ U r → ({ t with f := g' } : State).getF r = t.getF r) ∧
      (∀ i d, decode c.cmd = some i → s.fstat.err = false → t.responses = ⟨respOk, d⟩ :: s.responses →
        ∀ r ∈ writes i, ({ t with f := g' } : State).getF r = t.getF r)

/-! ## Moves, conversions, status -/

/-- Rules R80, R81, R85; the round trip of FGM's raw conversion. -/
def Obligations.RawMovesAreExact : Prop :=
  (∀ (s : State) (rd : Reg), WritesScalar (.wrr rd) s rd s.issued.wdata) ∧
  (∀ (s : State) (ra : Reg), ReturnsData (.rdr ra) s (s.getF ra)) ∧
  (∀ (s t : State) (rd : Reg), exec (.wrr rd) s = .next t → ReturnsData (.rdr rd) t s.issued.wdata) ∧
  (∀ (s : State) (rd ra : Reg), WritesScalar (.mov rd ra) s rd (s.getF ra))

/-- Rules R82, R83: `WRI` writes the signed low half of `wdata` times `2^32`; `RDI` reads the integer out, toward minus
infinity. -/
def Obligations.IntegerConversions : Prop :=
  (∀ (s : State) (rd : Reg), ∃ v, WritesScalar (.wri rd) s rd v ∧
    v.toInt = (s.issued.wdata.setWidth 32).toInt * 2 ^ 32) ∧
  (∀ (s : State) (ra : Reg), ∃ d, ReturnsData (.rdi ra) s d ∧ d.toInt = (s.getF ra).toInt / 2 ^ 32 ∧
    -2 ^ 31 ≤ d.toInt ∧ d.toInt ≤ 2 ^ 31 - 1)

/-- Rule R84: `LDC` writes the ROM's word, and an index above 20 raises IllegalCommand; for every setting of the parameters. -/
def Obligations.LoadConstantReadsTheRom : Prop :=
  ∀ (s : State) (rd : Reg) (k : BitVec 8),
    (k.toNat ≤ 20 → ∃ v, (constRom config)[k.toNat]? = some v ∧ WritesScalar (.ldc rd k) s rd v) ∧
    (k.toNat > 20 → Raises (.ldc rd k) s .illegalCommand) ∧
    ∀ p : Config, k.toNat ≤ 20 →
      ∃ v, (constRom p)[k.toNat]? = some v ∧ WritesScalarBy (execWith p) (.ldc rd k) s rd v

/-- The constant ROM's words (rule R30): the seven irrational ones are the parameters', here at their defaults
(assumption 4); the others do not depend on any setting. -/
def Obligations.ConstantRomHoldsTheTabledWords : Prop :=
  (constRom config).map BitVec.toNat =
    [0, 4294967296, 0xFFFFFFFF00000000, 8589934592, 2147483648, 0x8000000000000000, 9223372036854775807,
     13493037704, 6746518852, 26986075409, 1367130551, 11674931554,
     1546188226560, 773094113280, 386547056640, 193273528320, 1,
     2977044471, 133143986176, 246083499207, 12884901888] ∧
  ∀ p : Config,
    (∀ k, k ≤ 20 → k ∉ [7, 8, 9, 10, 11, 17, 19] → (constRom p)[k]? = (constRom config)[k]?) ∧
    [7, 8, 9, 10, 11, 17, 19].map (fun k => (constRom p)[k]?) =
      [some p.pi, some p.piOver2, some p.piTimes2, some p.piInv, some p.e, some p.ln2, some p.rad2Deg]

/-- Rules R86, R87: `RDSTAT` reads `FCMD` above `FSTAT`, bit by bit as rule R26 lays it out, and changes nothing; `CLRERR`
clears the latch and only it; both run while an error is latched. -/
def Obligations.StatusIsReadAndCleared : Prop :=
  (∀ s : State, ∃ d, ReturnsData .rdstat s d ∧ d.extractLsb' 32 32 = s.fcmd ∧ d.getLsbD 0 = s.fstat.t ∧
    d.getLsbD 1 = s.fstat.err ∧ d.extractLsb' 2 2 = 0#2 ∧ d.extractLsb' 4 4 = s.fstat.cause ∧
    d.extractLsb' 8 24 = 0#24 ∧ (LatchConsistent s → s.fstat.err = false → d = 0#64 ∨ d = 1#64)) ∧
  (∀ s : State, ∃ t, Answers .clrerr s respOk 0#64 t ∧ (∀ r, t.getF r = s.getF r) ∧ t.fstat.t = s.fstat.t ∧
    t.fstat.err = false ∧ t.fstat.cause = 0#4 ∧ t.fcmd = 0#32) ∧
  (∀ (s : State) (c : Command) (rest : List HostAction), s.pending = .issue c :: rest →
    (c.cmd = 0x08000000#32 → step s = exec .rdstat (s.running c rest)) ∧
    (c.cmd = 0x09000000#32 → step s = exec .clrerr (s.running c rest)))

/-! ## Arithmetic -/

/-- Rules R100, R101: the two's-complement overflow tests and their clamps, and that they are the clamp of the exact sum and
difference. -/
def Obligations.SaturatingAddAndSubtract : Prop :=
  ∀ (s : State) (rd ra rb : Reg),
    (∃ v, WritesScalar (.add rd ra rb) s rd v ∧ v.toInt = clamp64 ((s.getF ra).toInt + (s.getF rb).toInt) ∧
      v = if (~~~(s.getF ra ^^^ s.getF rb) &&& (s.getF ra ^^^ (s.getF ra + s.getF rb))).msb
          then (if 0 ≤ (s.getF ra).toInt then constMaxValue else constMinValue) else s.getF ra + s.getF rb) ∧
    (∃ v, WritesScalar (.sub rd ra rb) s rd v ∧ v.toInt = clamp64 ((s.getF ra).toInt - (s.getF rb).toInt) ∧
      v = if ((s.getF ra ^^^ s.getF rb) &&& (s.getF ra ^^^ (s.getF ra - s.getF rb))).msb
          then (if 0 ≤ (s.getF ra).toInt then constMaxValue else constMinValue) else s.getF ra - s.getF rb)

/-- Rule R102: the 128-bit product shifted right 32, toward minus infinity, clamped; and its four cross products. -/
def Obligations.SaturatingMultiply : Prop :=
  ∀ (s : State) (rd ra rb : Reg), ∃ (v : Scalar) (alo blo ahi bhi : Int),
    alo = ((s.getF ra).toNat % 2 ^ 32 : Nat) ∧ blo = ((s.getF rb).toNat % 2 ^ 32 : Nat) ∧
    ahi = (s.getF ra).toInt / 2 ^ 32 ∧ bhi = (s.getF rb).toInt / 2 ^ 32 ∧
    WritesScalar (.mul rd ra rb) s rd v ∧
    v.toInt = clamp64 ((s.getF ra).toInt * (s.getF rb).toInt / 2 ^ 32) ∧
    (s.getF ra).toInt * (s.getF rb).toInt / 2 ^ 32 =
      ahi * bhi * 2 ^ 32 + alo * bhi + ahi * blo + alo * blo / 2 ^ 32

/-- Rule R103: a zero divisor raises; else the magnitude is the nearest multiple of `2^-32`, ties upward, then the sign,
then the clamp. -/
def Obligations.SaturatingDivide : Prop :=
  ∀ (s : State) (rd ra rb : Reg),
    (s.getF rb = 0#64 → Raises (.div rd ra rb) s .divisionByZero) ∧
    (s.getF rb ≠ 0#64 → ∃ (v : Scalar) (m : Nat), WritesScalar (.div rd ra rb) s rd v ∧
      ((2 * m : Nat) : Int) * (s.getF rb).toInt.natAbs - (s.getF rb).toInt.natAbs ≤ (s.getF ra).toInt.natAbs * 2 ^ 33 ∧
      (s.getF ra).toInt.natAbs * 2 ^ 33 < (2 * m + 1) * (s.getF rb).toInt.natAbs ∧
      v.toInt = clamp64 (if ((s.getF ra).toInt < 0) ↔ ((s.getF rb).toInt < 0) then (m : Int) else -(m : Int)))

/-- Rule R104. -/
def Obligations.ModulusIsTheTruncatedRemainder : Prop :=
  ∀ (s : State) (rd ra rb : Reg),
    (s.getF rb = 0#64 → Raises (.mod rd ra rb) s .divisionByZero) ∧
    (s.getF rb ≠ 0#64 → ∃ v, WritesScalar (.mod rd ra rb) s rd v ∧
      IsTruncatedRemainder (s.getF ra).toInt (s.getF rb).toInt v.toInt)

/-- Rules R105, R106, R107. -/
def Obligations.NegateAbsoluteSign : Prop :=
  ∀ (s : State) (rd ra : Reg),
    (∃ v, WritesScalar (.neg rd ra) s rd v ∧ v.toInt = clamp64 (-(s.getF ra).toInt)) ∧
    (∃ v, WritesScalar (.abs rd ra) s rd v ∧ v.toInt = clamp64 ((s.getF ra).toInt.natAbs : Int)) ∧
    (∃ v, WritesScalar (.sign rd ra) s rd v ∧ v.toInt = (s.getF ra).toInt.sign * 2 ^ 32)

/-- Rules R108, R109, R110, R112: the low 64 bits of the exact result; under its precondition each fast command gives what
its saturating twin gives.  Outside the precondition the wrapped value is a decision (rule R114, D12; assumption 7). -/
def Obligations.FastCommandsWrapAndAgreeWithTheirTwins : Prop :=
  ∀ (s : State) (rd ra rb : Reg),
    WritesScalar (.fadd rd ra rb) s rd (s.getF ra + s.getF rb) ∧
    WritesScalar (.fsub rd ra rb) s rd (s.getF ra - s.getF rb) ∧
    WritesScalar (.fmul rd ra rb) s rd
      (((s.getF ra).signExtend 128 * (s.getF rb).signExtend 128).extractLsb' 32 64) ∧
    WritesScalar (.fabs rd ra) s rd (if (s.getF ra).msb then -(s.getF ra) else s.getF ra) ∧
    (FitsS64 ((s.getF ra).toInt + (s.getF rb).toInt) → exec (.fadd rd ra rb) s = exec (.add rd ra rb) s) ∧
    (FitsS64 ((s.getF ra).toInt - (s.getF rb).toInt) → exec (.fsub rd ra rb) s = exec (.sub rd ra rb) s) ∧
    (FitsS64 ((s.getF ra).toInt * (s.getF rb).toInt / 2 ^ 32) → exec (.fmul rd ra rb) s = exec (.mul rd ra rb) s) ∧
    (s.getF ra ≠ constMinValue → exec (.fabs rd ra) s = exec (.abs rd ra) s)

/-- Rule R111: FastFault on the two bad operand pairs; otherwise the truncated remainder, as `MOD`. -/
def Obligations.FastModulus : Prop :=
  ∀ (s : State) (rd ra rb : Reg),
    ((s.getF rb = 0#64 ∨ (s.getF ra = 0x8000000000000000#64 ∧ s.getF rb = 0xFFFFFFFFFFFFFFFF#64)) →
      Raises (.fmod rd ra rb) s .fastFault) ∧
    (¬ (s.getF rb = 0#64 ∨ (s.getF ra = 0x8000000000000000#64 ∧ s.getF rb = 0xFFFFFFFFFFFFFFFF#64)) →
      exec (.fmod rd ra rb) s = exec (.mod rd ra rb) s ∧
      ∃ v, WritesScalar (.fmod rd ra rb) s rd v ∧ IsTruncatedRemainder (s.getF ra).toInt (s.getF rb).toInt v.toInt)

/-! ## Rounding and comparison -/

/-- Rules R130, R131: the greatest integer-valued scalar not above, the least not below, or `MaxValue` when that one does
not exist. -/
def Obligations.FloorAndCeiling : Prop :=
  ∀ (s : State) (rd ra : Reg),
    (∃ v, WritesScalar (.floor rd ra) s rd v ∧ v = s.getF ra &&& 0xFFFFFFFF00000000#64 ∧ (2 ^ 32 : Int) ∣ v.toInt ∧
      v.toInt ≤ (s.getF ra).toInt ∧ (s.getF ra).toInt < v.toInt + 2 ^ 32) ∧
    (∃ v, WritesScalar (.ceil rd ra) s rd v ∧
      ((s.getF ra).toInt > 0x7FFFFFFF00000000 → v = constMaxValue) ∧
      ((s.getF ra).toInt ≤ 0x7FFFFFFF00000000 → (2 ^ 32 : Int) ∣ v.toInt ∧ (s.getF ra).toInt ≤ v.toInt ∧
        v.toInt < (s.getF ra).toInt + 2 ^ 32))

/-- Rule R132: the nearest integer `m`, a half going to the even one; `m = 2^31` saturates. -/
def Obligations.RoundHalfToEven : Prop :=
  ∀ (s : State) (rd ra : Reg), ∃ (v : Scalar) (m : Int), WritesScalar (.round rd ra) s rd v ∧
    (2 * ((s.getF ra).toInt - m * 2 ^ 32)).natAbs ≤ 2 ^ 32 ∧
    ((2 * ((s.getF ra).toInt - m * 2 ^ 32)).natAbs = 2 ^ 32 → m % 2 = 0) ∧
    v.toInt = clamp64 (m * 2 ^ 32)

/-- Rules R133, R134. -/
def Obligations.FractionAndItsTest : Prop :=
  ∀ (s : State) (rd ra : Reg),
    (∃ v, WritesScalar (.frac rd ra) s rd v ∧ v.toInt = (s.getF ra).toInt % 2 ^ 32) ∧
    WritesTruth (.hasfrac ra) s (decide ((s.getF ra).toInt % 2 ^ 32 ≠ 0))

/-- Rules R135 to R141: signed order of the raw values, equality of all 64 bits. -/
def Obligations.ComparisonsAreSignedAndExact : Prop :=
  ∀ (s : State) (ra rb : Reg),
    WritesTruth (.cmpeq ra rb) s (decide (s.getF ra = s.getF rb)) ∧
    WritesTruth (.cmpne ra rb) s (decide (s.getF ra ≠ s.getF rb)) ∧
    WritesTruth (.cmplt ra rb) s (decide ((s.getF ra).toInt < (s.getF rb).toInt)) ∧
    WritesTruth (.cmpgt ra rb) s (decide ((s.getF rb).toInt < (s.getF ra).toInt)) ∧
    WritesTruth (.cmple ra rb) s (!decide ((s.getF rb).toInt < (s.getF ra).toInt)) ∧
    WritesTruth (.cmpge ra rb) s (!decide ((s.getF ra).toInt < (s.getF rb).toInt)) ∧
    ((s.getF ra).toInt < (s.getF rb).toInt ∨ s.getF ra = s.getF rb ∨ (s.getF rb).toInt < (s.getF ra).toInt)

/-! ## Square root, logarithm, power -/

/-- Rule R150: a negative operand raises DomainError; else the result is the integer nearest to the root of `a · 2^32`:
`r - 1/2 < sqrt(n) < r + 1/2`, said on integers. -/
def Obligations.SquareRootIsTheNearestRoot : Prop :=
  ∀ (s : State) (rd ra : Reg),
    ((s.getF ra).toInt < 0 → Raises (.sqrt rd ra) s .domainError) ∧
    (0 ≤ (s.getF ra).toInt → ∃ v, WritesScalar (.sqrt rd ra) s rd v ∧ 0 ≤ v.toInt ∧ v.toInt ≤ 0x0000B504F333F9DE ∧
      (s.getF ra).toInt * 2 ^ 32 ≤ v.toInt * (v.toInt + 1) ∧
      (v.toInt = 0 ∨ v.toInt * (v.toInt - 1) < (s.getF ra).toInt * 2 ^ 32))

/-- Rule R151: DomainError at and below zero; else the result of the rule's procedure, said on integers (`IsLog2`), which is
exact at every power of two and lies between the whole logarithms around the operand, so in `[-32, 31)`. -/
def Obligations.Log2DomainRangeAndPowersOfTwo : Prop :=
  ∀ (s : State) (rd ra : Reg),
    ((s.getF ra).toInt ≤ 0 → Raises (.log2 rd ra) s .domainError) ∧
    (0 < (s.getF ra).toInt → ∃ v, Fix.log2 (s.getF ra) = .ok v ∧ WritesScalar (.log2 rd ra) s rd v ∧
      IsLog2 (s.getF ra).toInt v.toInt ∧
      -32 * 2 ^ 32 ≤ v.toInt ∧ v.toInt < 31 * 2 ^ 32 ∧
      (∀ k : Nat, (s.getF ra).toInt = 2 ^ k → v.toInt = ((k : Int) - 32) * 2 ^ 32) ∧
      ∀ k : Nat, 2 ^ k ≤ (s.getF ra).toInt → (s.getF ra).toInt < 2 ^ (k + 1) →
        ((k : Int) - 32) * 2 ^ 32 ≤ v.toInt ∧ v.toInt < ((k : Int) - 31) * 2 ^ 32)

/-- Rule R152, with `Ln2` at its default (assumption 4): the fast multiply never wraps here; `l` is the logarithm rule R151
gives. -/
def Obligations.NaturalLogScalesLog2 : Prop :=
  ∀ (s : State) (rd ra : Reg),
    ((s.getF ra).toInt ≤ 0 → Raises (.ln rd ra) s .domainError) ∧
    (0 < (s.getF ra).toInt → ∃ l v, Fix.log2 (s.getF ra) = .ok l ∧ IsLog2 (s.getF ra).toInt l.toInt ∧
      WritesScalar (.ln rd ra) s rd v ∧ v.toInt = l.toInt * 2977044471 / 2 ^ 32)

/-- Rule R153, with `Ln2` at its default (assumption 4): `POW2` raises nothing; its special cases, its two clamps, the series
and the shift at every exponent in `[0, 31)`, whole ones or not (`IsPow2Series`), and the reciprocal arm. -/
def Obligations.PowerOfTwoArms : Prop :=
  ∀ (s : State) (rd ra : Reg), ∃ v, Fix.pow2 config (s.getF ra) = .ok v ∧ WritesScalar (.pow2 rd ra) s rd v ∧
    ((s.getF ra).toInt ≥ 31 * 2 ^ 32 → v = constMaxValue) ∧
    ((s.getF ra).toInt < -31 * 2 ^ 32 → v = 1#64) ∧
    ((s.getF ra).toInt = -2 ^ 32 → v = constHalf) ∧
    (∀ n : Nat, n ≤ 30 → (s.getF ra).toInt = n * 2 ^ 32 → v.toInt = 2 ^ (n + 32)) ∧
    (0 ≤ (s.getF ra).toInt → (s.getF ra).toInt < 31 * 2 ^ 32 →
      ∃ r, IsPow2Series 2977044471 ((s.getF ra).toInt % 2 ^ 32) r ∧
        v.toInt = clamp64 (r * 2 ^ ((s.getF ra).toInt / 2 ^ 32).toNat)) ∧
    (-31 * 2 ^ 32 ≤ (s.getF ra).toInt → (s.getF ra).toInt < 0 → (s.getF ra).toInt ≠ -2 ^ 32 →
      ∃ y, Fix.pow2 config (Fix.neg (s.getF ra)) = .ok y ∧ Fix.div constOne y = .ok v)

/-- Rules R153, R276: the series of `POW2` ends: allowing more passes than the model allows changes nothing, for every setting
of `Ln2` below `One`. -/
def Obligations.PowerSeriesTerminates : Prop :=
  ∀ (p : Config) (x : Scalar) (n : Nat), 0 ≤ p.ln2.toInt → p.ln2.toInt < 2 ^ 32 → 0 ≤ x.toInt → x.toInt < 2 ^ 32 →
    Fix.pow2Series p x (Fix.pow2Fuel + n) constOne constOne 1 = Fix.pow2Series p x Fix.pow2Fuel constOne constOne 1

/-- Rule R154, in the order of its tests; the logarithm is that of rule R151, the power that of rule R153 (their own
statements say which); the series inside `POW2` uses the default `Ln2` (assumption 4). -/
def Obligations.GeneralPowerArms : Prop :=
  ∀ (s : State) (rd ra rb : Reg),
    (s.getF ra = constOne ∨ s.getF rb = 0#64 → WritesScalar (.pow rd ra rb) s rd constOne) ∧
    (s.getF ra = 0#64 → (s.getF rb).toInt < 0 → Raises (.pow rd ra rb) s .divisionByZero) ∧
    (s.getF ra = 0#64 → 0 < (s.getF rb).toInt → WritesScalar (.pow rd ra rb) s rd 0#64) ∧
    ((s.getF ra).toInt < 0 → s.getF rb ≠ 0#64 → Raises (.pow rd ra rb) s .domainError) ∧
    (0 < (s.getF ra).toInt → s.getF ra ≠ constOne → s.getF rb ≠ 0#64 →
      ∃ l v, Fix.log2 (s.getF ra) = .ok l ∧ Fix.pow2 config (Fix.mul (s.getF rb) l) = .ok v ∧
        WritesScalar (.pow rd ra rb) s rd v)

/-! ## Angles and trigonometry -/

/-- Rules R171, R172, with `Pi` at its default: neither conversion raises; `Pi` and 180° go to each other exactly. -/
def Obligations.DegreesAndRadians : Prop :=
  ∀ (s : State) (rd ra : Reg),
    (∃ v, Fix.div (Fix.mul (s.getF ra) 0x000000B400000000#64) 0x00000003243F6A88#64 = .ok v ∧
      WritesScalar (.todeg rd ra) s rd v ∧ (s.getF ra = 0x00000003243F6A88#64 → v = 0x000000B400000000#64)) ∧
    (∃ v, Fix.div (Fix.mul (s.getF ra) 0x00000003243F6A88#64) 0x000000B400000000#64 = .ok v ∧
      WritesScalar (.torad rd ra) s rd v ∧ (s.getF ra = 0x000000B400000000#64 → v = 0x00000003243F6A88#64))

/-- Rule R173, for any table: a full turn changes nothing, a half turn negates. -/
def Obligations.SineCoreTurns : Prop :=
  ∀ (p : Config) (a : Int),
    Fix.sinCore p (a + 360 * 2 ^ 32) = Fix.sinCore p a ∧ Fix.sinCore p (a + 180 * 2 ^ 32) = -Fix.sinCore p a

/-- Rules R173, R174, R175: `SIN` is the sine core, `COS` the sine core of the exact sum with 90°, for every setting of the
table; which entry the core reads in each of the first two quadrants, the index reflected in the second, and `One` at the
entry that is not stored (the other quadrants follow by `SineCoreTurns`); and both are exact at every multiple of 90°, for
negative angles too, with the default table (assumption 5). -/
def Obligations.SineAndCosineExactAtQuarterTurns : Prop :=
  (∀ (s : State) (rd ra : Reg),
    WritesScalar (.sin rd ra) s rd (Fix.sinCore config (s.getF ra).toInt) ∧
    WritesScalar (.cos rd ra) s rd (Fix.sinCore config ((s.getF ra).toInt + 90 * 2 ^ 32)) ∧
    (∀ k : Int, (s.getF ra).toInt = k * (90 * 2 ^ 32) →
      WritesScalar (.sin rd ra) s rd
        (if k % 4 = 1 then constOne else if k % 4 = 3 then constMinusOne else constZero) ∧
      WritesScalar (.cos rd ra) s rd
        (if k % 4 = 0 then constOne else if k % 4 = 2 then constMinusOne else constZero)) ∧
    ∀ p : Config, WritesScalarBy (execWith p) (.sin rd ra) s rd (Fix.sinCore p (s.getF ra).toInt) ∧
      WritesScalarBy (execWith p) (.cos rd ra) s rd (Fix.sinCore p ((s.getF ra).toInt + 90 * 2 ^ 32))) ∧
  ∀ (p : Config) (a : Nat),
    (a < 90 * 2 ^ 32 → Fix.sinCore p a = p.sinTable (a / 2 ^ 22)) ∧
    (90 * 2 ^ 32 ≤ a → a < 90 * 2 ^ 32 + 2 ^ 22 → Fix.sinCore p a = constOne) ∧
    (90 * 2 ^ 32 + 2 ^ 22 ≤ a → a < 180 * 2 ^ 32 →
      Fix.sinCore p a = p.sinTable (92160 - (a - 90 * 2 ^ 32) / 2 ^ 22))

/-- Rules R42, R174: with a sine table whose entries lie in `[0, 2^32 - 1]`, every sine lies in `[MinusOne, One]`. -/
def Obligations.SineStaysInTheUnitRange : Prop :=
  ∀ p : Config, (∀ i, i < 92160 → 0 ≤ (p.sinTable i).toInt ∧ (p.sinTable i).toInt ≤ 2 ^ 32 - 1) →
    ∀ a : Int, -2 ^ 32 ≤ (Fix.sinCore p a).toInt ∧ (Fix.sinCore p a).toInt ≤ 2 ^ 32

/-- Rules R41, R173, R176: an index outside 0 to `N` - 1 is never presented to a table: `N` itself is the special case of
each rule. -/
def Obligations.TableIndexStaysInTheTable : Prop :=
  ∀ a : Int,
    Fix.sinIndex a ≤ 92160 ∧ (Fix.flipH a = false → Fix.sinIndex a < 92160) ∧ (Fix.flipH a = true → 1 ≤ Fix.sinIndex a) ∧
    (Fix.tanReduce a).natAbs / 2 ^ 22 ≤ 92160 ∧
    ((Fix.tanReduce a).natAbs / 2 ^ 22 = 92160 ↔ ∃ k : Int, a = (2 * k + 1) * (90 * 2 ^ 32))

/-- Rule R42: every entry of the default `SinTable` (assumption 5) is the true sine of `i/1024` degrees times `2^32`, to
within half a unit and a thousandth. -/
def Obligations.SineTableIsTheRoundedSine : Prop :=
  ∀ i : Nat, i < 92160 →
    |(((config.sinTable i).toInt : ℤ) : ℝ) - Real.sin ((i : ℝ) / 1024 * (Real.pi / 180)) * 2 ^ 32| ≤ 1 / 2 + 1 / 1000

/-- Rule R176, for every setting of the table: the angle is folded into `[-90°, 90°]`, the ends give `MaxValue` and
`MinValue`, all else the table's entry with the sign of the folded angle (`IsTangent`). -/
def Obligations.TangentPolesAndTable : Prop :=
  ∀ (s : State) (rd ra : Reg),
    (∃ v, WritesScalar (.tan rd ra) s rd v ∧ IsTangent config.tanTable (s.getF ra).toInt v) ∧
    ∀ p : Config, ∃ v, WritesScalarBy (execWith p) (.tan rd ra) s rd v ∧ IsTangent p.tanTable (s.getF ra).toInt v

/-- Rule R177: `ATAN` raises nothing, is 0 at 0; in `(0, One]` it is the loop and the three operations after it, said on
integers (`IsAtanUnit`); below 0 it is the negated value at `NEG(z)`, which at `MinValue` is `MaxValue`; above `One` it is 90°
less the arctangent of the reciprocal.  The first clause with `Rad2Deg` at its default (assumption 4), the others for every
setting. -/
def Obligations.ArctangentSignAndInversion : Prop :=
  (∀ (s : State) (rd ra : Reg), ∃ v, Fix.atan config (s.getF ra) = .ok v ∧ WritesScalar (.atan rd ra) s rd v ∧
    (s.getF ra = 0#64 → v = 0#64) ∧
    (0 < (s.getF ra).toInt → (s.getF ra).toInt ≤ 2 ^ 32 → IsAtanUnit 246083499207 (s.getF ra).toInt v.toInt)) ∧
  (∀ (p : Config) (z : Scalar), z.toInt < 0 → ∃ r, Fix.atan p (Fix.neg z) = .ok r ∧ Fix.atan p z = .ok (Fix.neg r)) ∧
  (∀ p : Config, ∃ r, Fix.atan p constMaxValue = .ok r ∧ Fix.atan p constMinValue = .ok (Fix.neg r)) ∧
  (∀ (p : Config) (z : Scalar), 0 < z.toInt → ∃ r, Fix.atan p z = .ok r ∧ Fix.atan p (-z) = .ok (Fix.neg r)) ∧
  (∀ (p : Config) (z : Scalar), 2 ^ 32 < z.toInt →
    ∃ q r, Fix.div constOne z = .ok q ∧ 0 < q.toInt ∧ q.toInt ≤ 2 ^ 32 ∧ Fix.atan p q = .ok r ∧
      Fix.atan p z = .ok (Fix.sub constQuarterRot r))

/-- Rule R178, with `Rad2Deg` at its default (assumption 4). -/
def Obligations.ArccosineDomainAndValue : Prop :=
  ∀ (s : State) (rd ra : Reg),
    ((s.getF ra).toInt < -2 ^ 32 ∨ 2 ^ 32 < (s.getF ra).toInt → Raises (.acos rd ra) s .domainError) ∧
    (s.getF ra = 0#64 → WritesScalar (.acos rd ra) s rd constQuarterRot) ∧
    (s.getF ra = constMinusOne → WritesScalar (.acos rd ra) s rd constHalfRot) ∧
    (s.getF ra = constOne → WritesScalar (.acos rd ra) s rd 0#64) ∧
    (-2 ^ 32 ≤ (s.getF ra).toInt → (s.getF ra).toInt ≤ 2 ^ 32 → s.getF ra ≠ 0#64 →
      ∃ t q r, Fix.sqrt (Fix.sub constOne (Fix.mul (s.getF ra) (s.getF ra))) = .ok t ∧
        Fix.div t (s.getF ra) = .ok q ∧ Fix.atan config q = .ok r ∧
        WritesScalar (.acos rd ra) s rd (if (s.getF ra).toInt < 0 then Fix.add r constHalfRot else r))

/-- Rule R179: the first source is `y`, the second `x`; nothing raises, the origin and the y axis
included; `Rad2Deg` at its default (assumption 4). -/
def Obligations.TwoArgumentArctangent : Prop :=
  ∀ (s : State) (rd ra rb : Reg),
    (s.getF rb = 0#64 → WritesScalar (.atan2 rd ra rb) s rd
      (if 0 < (s.getF ra).toInt then 0x0000005A00000000#64
       else if (s.getF ra).toInt < 0 then 0xFFFFFFA600000000#64 else 0#64)) ∧
    (s.getF rb ≠ 0#64 → ∃ q a, Fix.div (s.getF ra) (s.getF rb) = .ok q ∧ Fix.atan config q = .ok a ∧
      WritesScalar (.atan2 rd ra rb) s rd
        (if (s.getF rb).toInt < 0
         then (if 0 ≤ (s.getF ra).toInt then Fix.add a constHalfRot else Fix.sub a constHalfRot) else a))

/-! ## Intervals -/

/-- Rules R202, R203: `ICREATE` sorts its two inputs, whichever comes first; `ICREATEU` trusts their order. -/
def Obligations.IntervalConstruction : Prop :=
  ∀ (s : State) (pd : Pair) (ra rb : Reg),
    (∃ lo hi, WritesPair (.icreate pd ra rb) s pd lo hi ∧ IsSorted (s.getF ra) (s.getF rb) lo hi) ∧
    exec (.icreate pd ra rb) s = exec (.icreate pd rb ra) s ∧
    WritesPair (.icreateu pd ra rb) s pd (s.getF ra) (s.getF rb)

/-- Rules R204, R205, R209: the two overlap tests and equality; on ordered intervals two overlap exactly when some scalar
is in both, and the order of the operands does not matter. -/
def Obligations.IntervalQueries : Prop :=
  ∀ (s : State) (ia ib : Pair) (rb : Reg),
    (∃ b, WritesTruth (.iovlv ia rb) s b ∧ (b = true ↔ Within (s.getF rb) (s.getP ia))) ∧
    (∃ b, WritesTruth (.iovl ia ib) s b ∧ WritesTruth (.iovl ib ia) s b ∧
      (b = true ↔ (s.getP ia).lo.toInt ≤ (s.getP ib).hi.toInt ∧ (s.getP ib).lo.toInt ≤ (s.getP ia).hi.toInt) ∧
      (Ordered (s.getP ia) → Ordered (s.getP ib) →
        (b = true ↔ ∃ v, Within v (s.getP ia) ∧ Within v (s.getP ib)))) ∧
    (∃ b, WritesTruth (.ieq ia ib) s b ∧ (b = true ↔ s.getP ia = s.getP ib))

/-- Rule R206: `T` says whether some scalar is in both; then the pair holds exactly those scalars, else it is `(0, 0)`. -/
def Obligations.IntervalIntersection : Prop :=
  ∀ (s : State) (pd ia ib : Pair), ∃ lo hi b, WritesPairAndTruth (.iint pd ia ib) s pd lo hi b ∧
    (b = true ↔ ∃ v, Within v (s.getP ia) ∧ Within v (s.getP ib)) ∧
    (b = true → ∀ v, Within v ⟨lo, hi⟩ ↔ Within v (s.getP ia) ∧ Within v (s.getP ib)) ∧
    (b = false → lo = 0#64 ∧ hi = 0#64)

/-- Rule R207: with `UNION_INVERTED` false, its default (assumption 4), the smallest interval containing both; for every
setting of the parameters, the least lower and the greatest upper bound, or the same two bounds swapped when it is true. -/
def Obligations.IntervalUnionIsTheHull : Prop :=
  ∀ (s : State) (pd ia ib : Pair), ∃ lo hi : Scalar,
    lo.toInt = Min.min (s.getP ia).lo.toInt (s.getP ib).lo.toInt ∧
    hi.toInt = Max.max (s.getP ia).hi.toInt (s.getP ib).hi.toInt ∧
    WritesPair (.iunion pd ia ib) s pd lo hi ∧
    (∀ p : Config, p.unionInverted = false → WritesPairBy (execWith p) (.iunion pd ia ib) s pd lo hi) ∧
    (∀ p : Config, p.unionInverted = true → WritesPairBy (execWith p) (.iunion pd ia ib) s pd hi lo) ∧
    (Ordered (s.getP ia) → Ordered (s.getP ib) →
      ∀ c : Interval, (∀ v, Within v ⟨lo, hi⟩ → Within v c) ↔
        (∀ v, Within v (s.getP ia) ∨ Within v (s.getP ib) → Within v c))

/-- Rule R208: zero when the two do not overlap; else the smaller of the two saturated push-outs, the negative candidate on a
tie. -/
def Obligations.MinimumTranslation : Prop :=
  ∀ (s : State) (rd : Reg) (ia ib : Pair), ∃ (d : Scalar) (right left : Int), WritesScalar (.imtv rd ia ib) s rd d ∧
    right = clamp64 ((s.getP ib).hi.toInt - (s.getP ia).lo.toInt) ∧
    left = clamp64 (-clamp64 ((s.getP ia).hi.toInt - (s.getP ib).lo.toInt)) ∧
    (¬ ((s.getP ia).lo.toInt ≤ (s.getP ib).hi.toInt ∧ (s.getP ib).lo.toInt ≤ (s.getP ia).hi.toInt) → d = 0#64) ∧
    ((s.getP ia).lo.toInt ≤ (s.getP ib).hi.toInt → (s.getP ib).lo.toInt ≤ (s.getP ia).hi.toInt →
      d.toInt = if clamp64 right.natAbs < clamp64 left.natAbs then right else left)

/-- Rules R210, R212, R214, R216, R218: each checked mutator writes its two new bounds, sorted. -/
def Obligations.CheckedMutatorsSortTheBounds : Prop :=
  ∀ (s : State) (pd ia : Pair) (rb : Reg), ∃ slo shi : Scalar,
    slo.toInt = clamp64 ((s.getP ia).lo.toInt + (s.getF rb).toInt) ∧
    shi.toInt = clamp64 ((s.getP ia).hi.toInt + (s.getF rb).toInt) ∧
    (∃ lo hi, WritesPair (.isetlo pd ia rb) s pd lo hi ∧ IsSorted (s.getF rb) (s.getP ia).hi lo hi) ∧
    (∃ lo hi, WritesPair (.isethi pd ia rb) s pd lo hi ∧ IsSorted (s.getP ia).lo (s.getF rb) lo hi) ∧
    (∃ lo hi, WritesPair (.iaddlo pd ia rb) s pd lo hi ∧ IsSorted slo (s.getP ia).hi lo hi) ∧
    (∃ lo hi, WritesPair (.iaddhi pd ia rb) s pd lo hi ∧ IsSorted (s.getP ia).lo shi lo hi) ∧
    (∃ lo hi, WritesPair (.itrans pd ia rb) s pd lo hi ∧ IsSorted slo shi lo hi)

/-- Rules R211, R213, R215, R217, R219: each unchecked mutator writes its two new bounds as they are; saturating addition is
monotonic, so on an ordered interval `ITRANSU` and `ITRANS` are the same command (rules R218, R219). -/
def Obligations.UncheckedMutatorsTrustTheOrder : Prop :=
  ∀ (s : State) (pd ia : Pair) (rb : Reg),
    (Ordered (s.getP ia) → exec (.itrans pd ia rb) s = exec (.itransu pd ia rb) s) ∧
    ∃ slo shi : Scalar,
      slo.toInt = clamp64 ((s.getP ia).lo.toInt + (s.getF rb).toInt) ∧
      shi.toInt = clamp64 ((s.getP ia).hi.toInt + (s.getF rb).toInt) ∧
      WritesPair (.isetlou pd ia rb) s pd (s.getF rb) (s.getP ia).hi ∧
      WritesPair (.isethiu pd ia rb) s pd (s.getP ia).lo (s.getF rb) ∧
      WritesPair (.iaddlou pd ia rb) s pd slo (s.getP ia).hi ∧
      WritesPair (.iaddhiu pd ia rb) s pd (s.getP ia).lo shi ∧
      WritesPair (.itransu pd ia rb) s pd slo shi

/-! ## The tangent table -/

/-- Rule R43: every entry of the default `TanTable` (assumption 5) is the true tangent of `i/1024` degrees times `2^32`, to
within half a unit and a thousandth; none is negative or clamped, the largest being the last. -/
def Obligations.TangentTableIsTheRoundedTangent : Prop :=
  ∀ i : Nat, i < 92160 →
    |(((config.tanTable i).toInt : ℤ) : ℝ) - Real.tan ((i : ℝ) / 1024 * (Real.pi / 180)) * 2 ^ 32| ≤ 1 / 2 + 1 / 1000 ∧
    0 ≤ (config.tanTable i).toInt ∧ (config.tanTable i).toInt ≤ 0x0000E52EE0D2BEBE
end

