-- ==== Sys2Proof/Laws/Arith.lean ====
section
/-! SUPPORT. Sys2Proof/Laws/Arith.lean: the small lemmas of narrowing (rule R8) and of the functions that raise. -/

namespace Sys2Proof.Machine

/-- A scalar's integer is in the range of an `S64`. -/
theorem scalar_range (a : Scalar) : -2 ^ 63 ≤ a.toInt ∧ a.toInt ≤ 2 ^ 63 - 1 := by
  have h := BitVec.toInt_lt (x := a)
  have h' := BitVec.le_toInt (x := a)
  simp at h h'
  constructor <;> omega

/-- `wrap64` keeps an integer that fits. -/
theorem toInt_wrap64 {z : Int} (h : -2 ^ 63 ≤ z) (h' : z ≤ 2 ^ 63 - 1) : (wrap64 z).toInt = z := by
  unfold wrap64
  rw [BitVec.toInt_ofInt]
  rw [Int.bmod_eq_of_le] <;> simp <;> omega

/-- `sat64` is the clamp of rule R8. -/
theorem toInt_sat64 (z : Int) : (sat64 z).toInt = if z < -2 ^ 63 then -2 ^ 63 else if z > 2 ^ 63 - 1 then 2 ^ 63 - 1 else z := by
  unfold sat64
  split
  · decide
  · split
    · decide
    · exact toInt_wrap64 (by omega) (by omega)

/-- `sat64` keeps an integer that fits. -/
theorem toInt_sat64_of_fits {z : Int} (h : -2 ^ 63 ≤ z) (h' : z ≤ 2 ^ 63 - 1) : (sat64 z).toInt = z := by
  rw [toInt_sat64, if_neg (by omega), if_neg (by omega)]

/-- Where nothing overflows, wrapping and clamping agree (rule R114). -/
theorem sat64_eq_wrap64 {z : Int} (h : -2 ^ 63 ≤ z) (h' : z ≤ 2 ^ 63 - 1) : sat64 z = wrap64 z := by
  unfold sat64 wrap64
  rw [if_neg (by omega), if_neg (by omega)]

namespace Fix

@[simp] theorem div_zero (a : Scalar) : div a 0#64 = .error .divisionByZero := by simp [div]

theorem div_of_ne (a : Scalar) {b : Scalar} (h : b ≠ 0#64) : div a b = .ok (sat64 (quotient a b)) := by simp [div, h]

@[simp] theorem mod_zero (a : Scalar) : mod a 0#64 = .error .divisionByZero := by simp [mod]

theorem mod_of_ne (a : Scalar) {b : Scalar} (h : b ≠ 0#64) : mod a b = .ok (wrap64 (a.toInt.tmod b.toInt)) := by simp [mod, h]

theorem sqrt_of_neg {a : Scalar} (h : a.toInt < 0) : sqrt a = .error .domainError := by simp [sqrt, h]

theorem log2_of_nonpos {a : Scalar} (h : a.toInt ≤ 0) : log2 a = .error .domainError := by simp [log2, h]

theorem ln_of_nonpos (p : Config) {a : Scalar} (h : a.toInt ≤ 0) : ln p a = .error .domainError := by
  simp [ln, log2_of_nonpos h, bind, Except.bind]

end Fix

end Sys2Proof.Machine
end

