-- ==== Sys2Proof/Laws/State.lean ====
section
/-! SUPPORT. Sys2Proof/Laws/State.lean: one lemma per field per update of the state, and reads after writes of registers and
pairs, so that no later proof unfolds an update. -/

namespace Sys2Proof.Machine

/-! ### `setF` -/

@[simp] theorem State.setF_f (s : State) (r : Reg) (v : Scalar) : (s.setF r v).f = s.f.set r v := rfl
@[simp] theorem State.setF_fstat (s : State) (r : Reg) (v : Scalar) : (s.setF r v).fstat = s.fstat := rfl
@[simp] theorem State.setF_fcmd (s : State) (r : Reg) (v : Scalar) : (s.setF r v).fcmd = s.fcmd := rfl
@[simp] theorem State.setF_issued (s : State) (r : Reg) (v : Scalar) : (s.setF r v).issued = s.issued := rfl
@[simp] theorem State.setF_responses (s : State) (r : Reg) (v : Scalar) : (s.setF r v).responses = s.responses := rfl
@[simp] theorem State.setF_pending (s : State) (r : Reg) (v : Scalar) : (s.setF r v).pending = s.pending := rfl
@[simp] theorem State.setF_freeNext (s : State) (r : Reg) (v : Scalar) : (s.setF r v).freeNext = s.freeNext := rfl

/-! ### `setP` -/

@[simp] theorem State.setP_f (s : State) (p : Pair) (v : Interval) : (s.setP p v).f = (s.f.set (lowerReg p) v.lo).set (upperReg p) v.hi := rfl
@[simp] theorem State.setP_fstat (s : State) (p : Pair) (v : Interval) : (s.setP p v).fstat = s.fstat := rfl
@[simp] theorem State.setP_fcmd (s : State) (p : Pair) (v : Interval) : (s.setP p v).fcmd = s.fcmd := rfl
@[simp] theorem State.setP_issued (s : State) (p : Pair) (v : Interval) : (s.setP p v).issued = s.issued := rfl
@[simp] theorem State.setP_responses (s : State) (p : Pair) (v : Interval) : (s.setP p v).responses = s.responses := rfl
@[simp] theorem State.setP_pending (s : State) (p : Pair) (v : Interval) : (s.setP p v).pending = s.pending := rfl
@[simp] theorem State.setP_freeNext (s : State) (p : Pair) (v : Interval) : (s.setP p v).freeNext = s.freeNext := rfl

/-! ### `setT` -/

@[simp] theorem State.setT_f (s : State) (b : Bool) : (s.setT b).f = s.f := rfl
@[simp] theorem State.setT_fstat (s : State) (b : Bool) : (s.setT b).fstat = { s.fstat with t := b } := rfl
@[simp] theorem State.setT_fcmd (s : State) (b : Bool) : (s.setT b).fcmd = s.fcmd := rfl
@[simp] theorem State.setT_issued (s : State) (b : Bool) : (s.setT b).issued = s.issued := rfl
@[simp] theorem State.setT_responses (s : State) (b : Bool) : (s.setT b).responses = s.responses := rfl
@[simp] theorem State.setT_pending (s : State) (b : Bool) : (s.setT b).pending = s.pending := rfl
@[simp] theorem State.setT_freeNext (s : State) (b : Bool) : (s.setT b).freeNext = s.freeNext := rfl

/-! ### `respond` -/

@[simp] theorem State.respond_f (s : State) (c : BitVec 4) (d : BitVec 64) : (s.respond c d).f = s.f := rfl
@[simp] theorem State.respond_fstat (s : State) (c : BitVec 4) (d : BitVec 64) : (s.respond c d).fstat = s.fstat := rfl
@[simp] theorem State.respond_fcmd (s : State) (c : BitVec 4) (d : BitVec 64) : (s.respond c d).fcmd = s.fcmd := rfl
@[simp] theorem State.respond_issued (s : State) (c : BitVec 4) (d : BitVec 64) : (s.respond c d).issued = s.issued := rfl
@[simp] theorem State.respond_responses (s : State) (c : BitVec 4) (d : BitVec 64) : (s.respond c d).responses = ⟨c, d⟩ :: s.responses := rfl
@[simp] theorem State.respond_pending (s : State) (c : BitVec 4) (d : BitVec 64) : (s.respond c d).pending = s.pending := rfl
@[simp] theorem State.respond_freeNext (s : State) (c : BitVec 4) (d : BitVec 64) : (s.respond c d).freeNext = s.freeNext := rfl

/-! ### `raise` -/

@[simp] theorem State.raise_f (s : State) (c : Cause) : (s.raise c).f = s.f := rfl
@[simp] theorem State.raise_fstat (s : State) (c : Cause) : (s.raise c).fstat = { s.fstat with err := true, cause := c.code } := rfl
@[simp] theorem State.raise_fcmd (s : State) (c : Cause) : (s.raise c).fcmd = s.issued.cmd := rfl
@[simp] theorem State.raise_issued (s : State) (c : Cause) : (s.raise c).issued = s.issued := rfl
@[simp] theorem State.raise_responses (s : State) (c : Cause) : (s.raise c).responses = ⟨c.code, 0#64⟩ :: s.responses := rfl
@[simp] theorem State.raise_pending (s : State) (c : Cause) : (s.raise c).pending = s.pending := rfl
@[simp] theorem State.raise_freeNext (s : State) (c : Cause) : (s.raise c).freeNext = s.freeNext := rfl

/-! ### `clearLatch` -/

@[simp] theorem State.clearLatch_f (s : State) : (s.clearLatch).f = s.f := rfl
@[simp] theorem State.clearLatch_fstat (s : State) : (s.clearLatch).fstat = { s.fstat with err := false, cause := 0#4 } := rfl
@[simp] theorem State.clearLatch_fcmd (s : State) : (s.clearLatch).fcmd = 0#32 := rfl
@[simp] theorem State.clearLatch_issued (s : State) : (s.clearLatch).issued = s.issued := rfl
@[simp] theorem State.clearLatch_responses (s : State) : (s.clearLatch).responses = s.responses := rfl
@[simp] theorem State.clearLatch_pending (s : State) : (s.clearLatch).pending = s.pending := rfl
@[simp] theorem State.clearLatch_freeNext (s : State) : (s.clearLatch).freeNext = s.freeNext := rfl

/-! ### `answerBlocked` -/

@[simp] theorem State.answerBlocked_f (s : State) : (s.answerBlocked).f = s.f := rfl
@[simp] theorem State.answerBlocked_fstat (s : State) : (s.answerBlocked).fstat = s.fstat := rfl
@[simp] theorem State.answerBlocked_fcmd (s : State) : (s.answerBlocked).fcmd = s.fcmd := rfl
@[simp] theorem State.answerBlocked_issued (s : State) : (s.answerBlocked).issued = s.issued := rfl
@[simp] theorem State.answerBlocked_responses (s : State) : (s.answerBlocked).responses = ⟨respBlocked, 0#64⟩ :: s.responses := rfl
@[simp] theorem State.answerBlocked_pending (s : State) : (s.answerBlocked).pending = s.pending := rfl
@[simp] theorem State.answerBlocked_freeNext (s : State) : (s.answerBlocked).freeNext = s.freeNext := rfl

/-! ### `present` -/

@[simp] theorem State.present_f (s : State) (c : Command) : (s.present c).f = s.f := rfl
@[simp] theorem State.present_fstat (s : State) (c : Command) : (s.present c).fstat = s.fstat := rfl
@[simp] theorem State.present_fcmd (s : State) (c : Command) : (s.present c).fcmd = s.fcmd := rfl
@[simp] theorem State.present_issued (s : State) (c : Command) : (s.present c).issued = c := rfl
@[simp] theorem State.present_responses (s : State) (c : Command) : (s.present c).responses = s.responses := rfl
@[simp] theorem State.present_pending (s : State) (c : Command) : (s.present c).pending = s.pending := rfl
@[simp] theorem State.present_freeNext (s : State) (c : Command) : (s.present c).freeNext = s.freeNext := rfl

/-! ### `assertReset` -/

@[simp] theorem State.assertReset_f (s : State) : (s.assertReset).f = freeRegisters s.freeNext := rfl
@[simp] theorem State.assertReset_fstat (s : State) : (s.assertReset).fstat = { t := false, err := false, cause := 0#4 } := rfl
@[simp] theorem State.assertReset_fcmd (s : State) : (s.assertReset).fcmd = 0#32 := rfl
@[simp] theorem State.assertReset_issued (s : State) : (s.assertReset).issued = s.issued := rfl
@[simp] theorem State.assertReset_responses (s : State) : (s.assertReset).responses = s.responses := rfl
@[simp] theorem State.assertReset_pending (s : State) : (s.assertReset).pending = s.pending := rfl
@[simp] theorem State.assertReset_freeNext (s : State) : (s.assertReset).freeNext = s.freeNext + 16 := rfl

/-! ### Registers -/

@[simp] theorem State.getF_setF_self (s : State) (r : Reg) (v : Scalar) : (s.setF r v).getF r = v := by
  simp [State.getF]

theorem State.getF_setF_of_ne (s : State) {r q : Reg} (v : Scalar) (h : q ≠ r) : (s.setF r v).getF q = s.getF q := by
  have h' : (r : Nat) ≠ q := fun e => h (Fin.ext e.symm)
  simp [State.getF, h']

theorem State.getF_setF (s : State) (r q : Reg) (v : Scalar) :
    (s.setF r v).getF q = if q = r then v else s.getF q := by
  by_cases h : q = r
  · subst h; simp
  · simp [h, State.getF_setF_of_ne]

theorem lowerReg_ne_upperReg (p q : Pair) : lowerReg p ≠ upperReg q := by
  simp only [lowerReg, upperReg, ne_eq, Fin.mk.injEq]; omega

@[simp] theorem State.getF_lowerReg_setP (s : State) (p : Pair) (v : Interval) : (s.setP p v).getF (lowerReg p) = v.lo := by
  simp [State.setP, State.getF_setF_of_ne _ _ (lowerReg_ne_upperReg p p)]

@[simp] theorem State.getF_upperReg_setP (s : State) (p : Pair) (v : Interval) : (s.setP p v).getF (upperReg p) = v.hi := by
  simp [State.setP]

theorem State.getF_setP_of_ne (s : State) {p : Pair} {q : Reg} (v : Interval) (hl : q ≠ lowerReg p) (hu : q ≠ upperReg p) :
    (s.setP p v).getF q = s.getF q := by
  simp [State.setP, State.getF_setF_of_ne, hl, hu]

@[simp] theorem State.getP_setP_self (s : State) (p : Pair) (v : Interval) : (s.setP p v).getP p = v := by
  simp [State.getP]

/-- Two states with the same registers read the same. -/
theorem State.getF_congr {s t : State} (h : s.f = t.f) (r : Reg) : s.getF r = t.getF r := by simp [State.getF, h]

/-- Registers that read the same everywhere are the same vector. -/
theorem State.f_ext {s t : State} (h : ∀ r, s.getF r = t.getF r) : s.f = t.f := by
  apply Vector.ext
  intro i hi
  exact h ⟨i, hi⟩

@[simp] theorem State.getF_setT (s : State) (b : Bool) (r : Reg) : (s.setT b).getF r = s.getF r := rfl
@[simp] theorem State.getP_setT (s : State) (b : Bool) (q : Pair) : (s.setT b).getP q = s.getP q := rfl
@[simp] theorem State.getF_respond (s : State) (c : BitVec 4) (d : BitVec 64) (r : Reg) : (s.respond c d).getF r = s.getF r := rfl
@[simp] theorem State.getP_respond (s : State) (c : BitVec 4) (d : BitVec 64) (q : Pair) : (s.respond c d).getP q = s.getP q := rfl
@[simp] theorem State.getF_raise (s : State) (c : Cause) (r : Reg) : (s.raise c).getF r = s.getF r := rfl
@[simp] theorem State.getP_raise (s : State) (c : Cause) (q : Pair) : (s.raise c).getP q = s.getP q := rfl
@[simp] theorem State.getF_clearLatch (s : State) (r : Reg) : (s.clearLatch).getF r = s.getF r := rfl
@[simp] theorem State.getP_clearLatch (s : State) (q : Pair) : (s.clearLatch).getP q = s.getP q := rfl
@[simp] theorem State.getF_answerBlocked (s : State) (r : Reg) : (s.answerBlocked).getF r = s.getF r := rfl
@[simp] theorem State.getP_answerBlocked (s : State) (q : Pair) : (s.answerBlocked).getP q = s.getP q := rfl
@[simp] theorem State.getF_present (s : State) (c : Command) (r : Reg) : (s.present c).getF r = s.getF r := rfl
@[simp] theorem State.getP_present (s : State) (c : Command) (q : Pair) : (s.present c).getP q = s.getP q := rfl

end Sys2Proof.Machine
end

