-- ==== Sys2Proof/Laws/Ops.lean ====
section
/-! SUPPORT. Sys2Proof/Laws/Ops.lean: what each shared operation can do, said once; later proofs cite these lemmas. -/

namespace Sys2Proof.Machine

/-! ## How a command ends -/

@[simp] theorem complete_eq (s : State) : complete s = .next (s.respond respOk 0#64) := rfl

@[simp] theorem completeWith_eq (d : BitVec 64) (s : State) : completeWith d s = .next (s.respond respOk d) := rfl

@[simp] theorem finishTruth_eq (b : Bool) (s : State) : finishTruth b s = .next ((s.setT b).respond respOk 0#64) := rfl

@[simp] theorem finishScalar_ok (rd : Reg) (v : Scalar) (s : State) :
    finishScalar rd (.ok v) s = .next ((s.setF rd v).respond respOk 0#64) := rfl

@[simp] theorem finishScalar_error (rd : Reg) (c : Cause) (s : State) :
    finishScalar rd (.error c) s = .next (s.raise c) := rfl

/-- A command that ends in `finishScalar` wrote its result or raised its function's cause. -/
theorem finishScalar_next {rd : Reg} {r : Except Cause Scalar} {s t : State} (h : finishScalar rd r s = .next t) :
    (∃ v, r = .ok v ∧ t = (s.setF rd v).respond respOk 0#64) ∨ (∃ c, r = .error c ∧ t = s.raise c) := by
  cases r with
  | ok v => left; exact ⟨v, rfl, by simpa using h.symm⟩
  | error c => right; exact ⟨c, rfl, by simpa using h.symm⟩

theorem finishScalar_answers (rd : Reg) (r : Except Cause Scalar) (s : State) : ∃ t, finishScalar rd r s = .next t := by
  cases r <;> simp

/-! ## The status register -/

theorem Fstat.word_bit0 (x : Fstat) : x.word.getLsbD 0 = x.t := by
  cases x with | mk t e c => cases t <;> cases e <;> revert c <;> decide

theorem Fstat.word_bit1 (x : Fstat) : x.word.getLsbD 1 = x.err := by
  cases x with | mk t e c => cases t <;> cases e <;> revert c <;> decide

/-! ## The port and the step -/

theorem takeAction_nil {s : State} (h : s.pending = []) : s.takeAction = none := by simp [State.takeAction, h]

theorem takeAction_cons {s : State} {a : HostAction} {rest : List HostAction} (h : s.pending = a :: rest) :
    s.takeAction = some (a, { s with pending := rest }) := by simp [State.takeAction, h]

/-- What rule R71 can do with the command at the port: it is answered `BLOCKED`, or raises IllegalCommand, or is executed. -/
theorem runCommand_cases (ex : Instr → State → Host.Outcome State Fault Refusal) (s : State) :
    (s.blocks = true ∧ runCommand ex s = .next s.answerBlocked) ∨
    (s.blocks = false ∧ decode s.issued.cmd = none ∧ runCommand ex s = .next (s.raise .illegalCommand)) ∨
    (s.blocks = false ∧ ∃ i, decode s.issued.cmd = some i ∧ runCommand ex s = ex i s) := by
  unfold runCommand
  cases hb : s.blocks with
  | true => simp
  | false => cases hd : decode s.issued.cmd <;> simp

/-- What the host's next action can do: nothing is left, a reset, or rule R71 on the next command. -/
theorem runNext_cases (ex : Instr → State → Host.Outcome State Fault Refusal) (s : State) :
    (s.pending = [] ∧ runNext ex s = .next s) ∨
    (∃ rest, s.pending = .reset :: rest ∧ runNext ex s = .next ({ s with pending := rest }).assertReset) ∨
    (∃ c rest, s.pending = .issue c :: rest ∧
      runNext ex s = runCommand ex (({ s with pending := rest } : State).present c)) := by
  unfold runNext
  cases hp : s.pending with
  | nil => left; exact ⟨rfl, by rw [takeAction_nil hp]⟩
  | cons a rest =>
    right
    cases a with
    | reset => left; exact ⟨rest, rfl, by rw [takeAction_cons hp]; rfl⟩
    | issue c => right; exact ⟨c, rest, rfl, by rw [takeAction_cons hp]; rfl⟩

/-- What a step can do. -/
theorem step_cases (s : State) :
    (s.pending = [] ∧ step s = .next s) ∨
    (∃ rest, s.pending = .reset :: rest ∧ step s = .next ({ s with pending := rest }).assertReset) ∨
    (∃ c rest, s.pending = .issue c :: rest ∧
      step s = runCommand exec (({ s with pending := rest } : State).present c)) := runNext_cases exec s

/-- What a step for a setting of the parameters can do. -/
theorem stepWith_cases (p : Config) (s : State) :
    (s.pending = [] ∧ stepWith p s = .next s) ∨
    (∃ rest, s.pending = .reset :: rest ∧ stepWith p s = .next ({ s with pending := rest }).assertReset) ∨
    (∃ c rest, s.pending = .issue c :: rest ∧
      stepWith p s = runCommand (execWith p) (({ s with pending := rest } : State).present c)) := runNext_cases (execWith p) s

/-! ## The parameters at their defaults -/

@[simp] theorem execWith_config : execWith config = exec := by
  funext i s
  cases i <;> rfl

@[simp] theorem stepWith_config : stepWith config = step := by
  funext s
  unfold stepWith step
  rw [execWith_config]

end Sys2Proof.Machine
end

