-- ==== Sys2Proof/Laws/Effects.lean ====
section
/-! SUPPORT. Sys2Proof/Laws/Effects.lean: the shapes of an effect (Safety.lean) follow from how a command ends
(Machine/Ops.lean), once for every executor. -/

namespace Sys2Proof.Machine

theorem writesScalarBy_of_complete {ex : Executor} {i : Instr} {s : State} {rd : Reg} {v : Scalar}
    (h : ex i s = complete (s.setF rd v)) : WritesScalarBy ex i s rd v :=
  ⟨_, ⟨h, rfl, rfl, rfl, rfl⟩, by simp, fun r hr => by simp [State.getF_setF_of_ne _ _ hr], rfl, rfl⟩

theorem writesScalarBy_of_finish {ex : Executor} {i : Instr} {s : State} {rd : Reg} {v : Scalar} {e : Except Cause Scalar}
    (h : ex i s = finishScalar rd e s) (he : e = .ok v) : WritesScalarBy ex i s rd v :=
  writesScalarBy_of_complete (by rw [h, he]; rfl)

theorem writesPairBy_of_complete {ex : Executor} {i : Instr} {s : State} {pd : Pair} {v : Interval}
    (h : ex i s = complete (s.setP pd v)) : WritesPairBy ex i s pd v.lo v.hi :=
  ⟨_, ⟨h, rfl, rfl, rfl, rfl⟩, by simp, by simp, fun r hl hu => by simp [State.getF_setP_of_ne _ _ hl hu], rfl, rfl⟩

theorem writesTruth_of_finish {i : Instr} {s : State} {b : Bool} (h : exec i s = finishTruth b s) : WritesTruth i s b :=
  ⟨_, ⟨h, rfl, rfl, rfl, rfl⟩, fun _ => rfl, rfl, rfl, rfl, rfl⟩

theorem returnsData_of_complete {i : Instr} {s : State} {d : BitVec 64} (h : exec i s = completeWith d s) :
    ReturnsData i s d :=
  ⟨_, ⟨h, rfl, rfl, rfl, rfl⟩, fun _ => rfl, rfl, rfl⟩

/-- `State.raise` is what rule R244 says, observed. -/
theorem raisedTo_raise (s : State) (c : Cause) : RaisedTo s c (s.raise c) :=
  ⟨rfl, fun _ => rfl, rfl, rfl, rfl, rfl, rfl, rfl, rfl⟩

theorem raises_of_raise {i : Instr} {s : State} {c : Cause} (h : exec i s = .next (s.raise c)) : Raises i s c :=
  ⟨_, h, raisedTo_raise s c⟩

theorem raises_of_finish {i : Instr} {s : State} {rd : Reg} {c : Cause} {e : Except Cause Scalar}
    (h : exec i s = finishScalar rd e s) (he : e = .error c) : Raises i s c :=
  raises_of_raise (by rw [h, he]; rfl)

end Sys2Proof.Machine
end

