-- ==== Sys2Proof/Laws/PerInstr.lean ====
section
/-! SUPPORT. Sys2Proof/Laws/PerInstr.lean: the family `RowMatch`: the word the encoder makes of a command is of the command's
row, `w & mask == match` (rule R61).  One lemma per constructor. -/

namespace Sys2Proof

/-- The fields of a packed word, combined with a mask, are the fields combined with the mask's fields. -/
theorem packWord_and (op m0 : BitVec 8) (f : Fields) (m1 m2 m3 m4 : BitVec 4) (m5 : BitVec 8) :
    packWord op f &&& (m0 ++ m1 ++ m2 ++ m3 ++ m4 ++ m5 : BitVec 32) =
      (op &&& m0) ++ (f.rd &&& m1) ++ (f.ra &&& m2) ++ (f.rb &&& m3) ++ (0#4 &&& m4) ++ (f.imm8 &&& m5) := by
  have h : ∀ {n m : Nat} (x₁ x₂ : BitVec n) (y₁ y₂ : BitVec m),
      (x₁ ++ y₁) &&& (x₂ ++ y₂) = (x₁ &&& x₂) ++ (y₁ &&& y₂) := fun x₁ x₂ y₁ y₂ => BitVec.and_append
  unfold packWord
  rw [← h, ← h, ← h, ← h, ← h]

/-- The field of a pair is even. -/
theorem pairBits_and_one (p : Pair) : pairBits p &&& 1#4 = 0#4 := by revert p; decide

/-- A packed word fits a format when its fields vanish under the format's mask, written field by field. -/
theorem fits_packWord (fmt : Format) (op : BitVec 8) (f : Fields) (m1 m2 m3 : BitVec 4) (m5 : BitVec 8)
    (hm : fmt.mask = 0xFF#8 ++ m1 ++ m2 ++ m3 ++ 0xF#4 ++ m5) (h1 : f.rd &&& m1 = 0#4) (h2 : f.ra &&& m2 = 0#4)
    (h3 : f.rb &&& m3 = 0#4) (h5 : f.imm8 &&& m5 = 0#8) : fits fmt op (packWord op f) = true := by
  have h : ∀ op : BitVec 8, ((op &&& 0xFF#8) ++ 0#4 ++ 0#4 ++ 0#4 ++ (0#4 &&& 0xF#4) ++ 0#8 == opMatch op) = true := by decide
  rw [fits, hm, packWord_and, h1, h2, h3, h5]
  exact h op

namespace Laws.RowMatch

/-- The command's word is of its row. -/
def Statement (i : Instr) : Prop := fits i.row.format i.row.op (encode i) = true

theorem wrr (rd : Reg) : Statement (.wrr rd) := fits_packWord _ _ _ 0x0#4 0xF#4 0xF#4 0xFF#8 rfl BitVec.and_zero BitVec.zero_and BitVec.zero_and BitVec.zero_and
theorem rdr (ra : Reg) : Statement (.rdr ra) := fits_packWord _ _ _ 0xF#4 0x0#4 0xF#4 0xFF#8 rfl BitVec.zero_and BitVec.and_zero BitVec.zero_and BitVec.zero_and
theorem wri (rd : Reg) : Statement (.wri rd) := fits_packWord _ _ _ 0x0#4 0xF#4 0xF#4 0xFF#8 rfl BitVec.and_zero BitVec.zero_and BitVec.zero_and BitVec.zero_and
theorem rdi (ra : Reg) : Statement (.rdi ra) := fits_packWord _ _ _ 0xF#4 0x0#4 0xF#4 0xFF#8 rfl BitVec.zero_and BitVec.and_zero BitVec.zero_and BitVec.zero_and
theorem ldc (rd : Reg) (k : BitVec 8) : Statement (.ldc rd k) := fits_packWord _ _ _ 0x0#4 0xF#4 0xF#4 0x0#8 rfl BitVec.and_zero BitVec.zero_and BitVec.zero_and BitVec.and_zero
theorem mov (rd : Reg) (ra : Reg) : Statement (.mov rd ra) := fits_packWord _ _ _ 0x0#4 0x0#4 0xF#4 0xFF#8 rfl BitVec.and_zero BitVec.and_zero BitVec.zero_and BitVec.zero_and
theorem rdstat : Statement (.rdstat) := fits_packWord _ _ _ 0xF#4 0xF#4 0xF#4 0xFF#8 rfl BitVec.zero_and BitVec.zero_and BitVec.zero_and BitVec.zero_and
theorem clrerr : Statement (.clrerr) := fits_packWord _ _ _ 0xF#4 0xF#4 0xF#4 0xFF#8 rfl BitVec.zero_and BitVec.zero_and BitVec.zero_and BitVec.zero_and
theorem add (rd : Reg) (ra : Reg) (rb : Reg) : Statement (.add rd ra rb) := fits_packWord _ _ _ 0x0#4 0x0#4 0x0#4 0xFF#8 rfl BitVec.and_zero BitVec.and_zero BitVec.and_zero BitVec.zero_and
theorem sub (rd : Reg) (ra : Reg) (rb : Reg) : Statement (.sub rd ra rb) := fits_packWord _ _ _ 0x0#4 0x0#4 0x0#4 0xFF#8 rfl BitVec.and_zero BitVec.and_zero BitVec.and_zero BitVec.zero_and
theorem mul (rd : Reg) (ra : Reg) (rb : Reg) : Statement (.mul rd ra rb) := fits_packWord _ _ _ 0x0#4 0x0#4 0x0#4 0xFF#8 rfl BitVec.and_zero BitVec.and_zero BitVec.and_zero BitVec.zero_and
theorem div (rd : Reg) (ra : Reg) (rb : Reg) : Statement (.div rd ra rb) := fits_packWord _ _ _ 0x0#4 0x0#4 0x0#4 0xFF#8 rfl BitVec.and_zero BitVec.and_zero BitVec.and_zero BitVec.zero_and
theorem mod (rd : Reg) (ra : Reg) (rb : Reg) : Statement (.mod rd ra rb) := fits_packWord _ _ _ 0x0#4 0x0#4 0x0#4 0xFF#8 rfl BitVec.and_zero BitVec.and_zero BitVec.and_zero BitVec.zero_and
theorem neg (rd : Reg) (ra : Reg) : Statement (.neg rd ra) := fits_packWord _ _ _ 0x0#4 0x0#4 0xF#4 0xFF#8 rfl BitVec.and_zero BitVec.and_zero BitVec.zero_and BitVec.zero_and
theorem abs (rd : Reg) (ra : Reg) : Statement (.abs rd ra) := fits_packWord _ _ _ 0x0#4 0x0#4 0xF#4 0xFF#8 rfl BitVec.and_zero BitVec.and_zero BitVec.zero_and BitVec.zero_and
theorem sign (rd : Reg) (ra : Reg) : Statement (.sign rd ra) := fits_packWord _ _ _ 0x0#4 0x0#4 0xF#4 0xFF#8 rfl BitVec.and_zero BitVec.and_zero BitVec.zero_and BitVec.zero_and
theorem fadd (rd : Reg) (ra : Reg) (rb : Reg) : Statement (.fadd rd ra rb) := fits_packWord _ _ _ 0x0#4 0x0#4 0x0#4 0xFF#8 rfl BitVec.and_zero BitVec.and_zero BitVec.and_zero BitVec.zero_and
theorem fsub (rd : Reg) (ra : Reg) (rb : Reg) : Statement (.fsub rd ra rb) := fits_packWord _ _ _ 0x0#4 0x0#4 0x0#4 0xFF#8 rfl BitVec.and_zero BitVec.and_zero BitVec.and_zero BitVec.zero_and
theorem fmul (rd : Reg) (ra : Reg) (rb : Reg) : Statement (.fmul rd ra rb) := fits_packWord _ _ _ 0x0#4 0x0#4 0x0#4 0xFF#8 rfl BitVec.and_zero BitVec.and_zero BitVec.and_zero BitVec.zero_and
theorem fmod (rd : Reg) (ra : Reg) (rb : Reg) : Statement (.fmod rd ra rb) := fits_packWord _ _ _ 0x0#4 0x0#4 0x0#4 0xFF#8 rfl BitVec.and_zero BitVec.and_zero BitVec.and_zero BitVec.zero_and
theorem fabs (rd : Reg) (ra : Reg) : Statement (.fabs rd ra) := fits_packWord _ _ _ 0x0#4 0x0#4 0xF#4 0xFF#8 rfl BitVec.and_zero BitVec.and_zero BitVec.zero_and BitVec.zero_and
theorem floor (rd : Reg) (ra : Reg) : Statement (.floor rd ra) := fits_packWord _ _ _ 0x0#4 0x0#4 0xF#4 0xFF#8 rfl BitVec.and_zero BitVec.and_zero BitVec.zero_and BitVec.zero_and
theorem ceil (rd : Reg) (ra : Reg) : Statement (.ceil rd ra) := fits_packWord _ _ _ 0x0#4 0x0#4 0xF#4 0xFF#8 rfl BitVec.and_zero BitVec.and_zero BitVec.zero_and BitVec.zero_and
theorem round (rd : Reg) (ra : Reg) : Statement (.round rd ra) := fits_packWord _ _ _ 0x0#4 0x0#4 0xF#4 0xFF#8 rfl BitVec.and_zero BitVec.and_zero BitVec.zero_and BitVec.zero_and
theorem frac (rd : Reg) (ra : Reg) : Statement (.frac rd ra) := fits_packWord _ _ _ 0x0#4 0x0#4 0xF#4 0xFF#8 rfl BitVec.and_zero BitVec.and_zero BitVec.zero_and BitVec.zero_and
theorem hasfrac (ra : Reg) : Statement (.hasfrac ra) := fits_packWord _ _ _ 0xF#4 0x0#4 0xF#4 0xFF#8 rfl BitVec.zero_and BitVec.and_zero BitVec.zero_and BitVec.zero_and
theorem cmpeq (ra : Reg) (rb : Reg) : Statement (.cmpeq ra rb) := fits_packWord _ _ _ 0xF#4 0x0#4 0x0#4 0xFF#8 rfl BitVec.zero_and BitVec.and_zero BitVec.and_zero BitVec.zero_and
theorem cmpne (ra : Reg) (rb : Reg) : Statement (.cmpne ra rb) := fits_packWord _ _ _ 0xF#4 0x0#4 0x0#4 0xFF#8 rfl BitVec.zero_and BitVec.and_zero BitVec.and_zero BitVec.zero_and
theorem cmplt (ra : Reg) (rb : Reg) : Statement (.cmplt ra rb) := fits_packWord _ _ _ 0xF#4 0x0#4 0x0#4 0xFF#8 rfl BitVec.zero_and BitVec.and_zero BitVec.and_zero BitVec.zero_and
theorem cmpgt (ra : Reg) (rb : Reg) : Statement (.cmpgt ra rb) := fits_packWord _ _ _ 0xF#4 0x0#4 0x0#4 0xFF#8 rfl BitVec.zero_and BitVec.and_zero BitVec.and_zero BitVec.zero_and
theorem cmple (ra : Reg) (rb : Reg) : Statement (.cmple ra rb) := fits_packWord _ _ _ 0xF#4 0x0#4 0x0#4 0xFF#8 rfl BitVec.zero_and BitVec.and_zero BitVec.and_zero BitVec.zero_and
theorem cmpge (ra : Reg) (rb : Reg) : Statement (.cmpge ra rb) := fits_packWord _ _ _ 0xF#4 0x0#4 0x0#4 0xFF#8 rfl BitVec.zero_and BitVec.and_zero BitVec.and_zero BitVec.zero_and
theorem sqrt (rd : Reg) (ra : Reg) : Statement (.sqrt rd ra) := fits_packWord _ _ _ 0x0#4 0x0#4 0xF#4 0xFF#8 rfl BitVec.and_zero BitVec.and_zero BitVec.zero_and BitVec.zero_and
theorem log2 (rd : Reg) (ra : Reg) : Statement (.log2 rd ra) := fits_packWord _ _ _ 0x0#4 0x0#4 0xF#4 0xFF#8 rfl BitVec.and_zero BitVec.and_zero BitVec.zero_and BitVec.zero_and
theorem ln (rd : Reg) (ra : Reg) : Statement (.ln rd ra) := fits_packWord _ _ _ 0x0#4 0x0#4 0xF#4 0xFF#8 rfl BitVec.and_zero BitVec.and_zero BitVec.zero_and BitVec.zero_and
theorem pow2 (rd : Reg) (ra : Reg) : Statement (.pow2 rd ra) := fits_packWord _ _ _ 0x0#4 0x0#4 0xF#4 0xFF#8 rfl BitVec.and_zero BitVec.and_zero BitVec.zero_and BitVec.zero_and
theorem pow (rd : Reg) (ra : Reg) (rb : Reg) : Statement (.pow rd ra rb) := fits_packWord _ _ _ 0x0#4 0x0#4 0x0#4 0xFF#8 rfl BitVec.and_zero BitVec.and_zero BitVec.and_zero BitVec.zero_and
theorem sin (rd : Reg) (ra : Reg) : Statement (.sin rd ra) := fits_packWord _ _ _ 0x0#4 0x0#4 0xF#4 0xFF#8 rfl BitVec.and_zero BitVec.and_zero BitVec.zero_and BitVec.zero_and
theorem cos (rd : Reg) (ra : Reg) : Statement (.cos rd ra) := fits_packWord _ _ _ 0x0#4 0x0#4 0xF#4 0xFF#8 rfl BitVec.and_zero BitVec.and_zero BitVec.zero_and BitVec.zero_and
theorem tan (rd : Reg) (ra : Reg) : Statement (.tan rd ra) := fits_packWord _ _ _ 0x0#4 0x0#4 0xF#4 0xFF#8 rfl BitVec.and_zero BitVec.and_zero BitVec.zero_and BitVec.zero_and
theorem atan (rd : Reg) (ra : Reg) : Statement (.atan rd ra) := fits_packWord _ _ _ 0x0#4 0x0#4 0xF#4 0xFF#8 rfl BitVec.and_zero BitVec.and_zero BitVec.zero_and BitVec.zero_and
theorem acos (rd : Reg) (ra : Reg) : Statement (.acos rd ra) := fits_packWord _ _ _ 0x0#4 0x0#4 0xF#4 0xFF#8 rfl BitVec.and_zero BitVec.and_zero BitVec.zero_and BitVec.zero_and
theorem atan2 (rd : Reg) (ra : Reg) (rb : Reg) : Statement (.atan2 rd ra rb) := fits_packWord _ _ _ 0x0#4 0x0#4 0x0#4 0xFF#8 rfl BitVec.and_zero BitVec.and_zero BitVec.and_zero BitVec.zero_and
theorem todeg (rd : Reg) (ra : Reg) : Statement (.todeg rd ra) := fits_packWord _ _ _ 0x0#4 0x0#4 0xF#4 0xFF#8 rfl BitVec.and_zero BitVec.and_zero BitVec.zero_and BitVec.zero_and
theorem torad (rd : Reg) (ra : Reg) : Statement (.torad rd ra) := fits_packWord _ _ _ 0x0#4 0x0#4 0xF#4 0xFF#8 rfl BitVec.and_zero BitVec.and_zero BitVec.zero_and BitVec.zero_and
theorem icreate (id : Pair) (ra : Reg) (rb : Reg) : Statement (.icreate id ra rb) := fits_packWord _ _ _ 0x1#4 0x0#4 0x0#4 0xFF#8 rfl (pairBits_and_one _) BitVec.and_zero BitVec.and_zero BitVec.zero_and
theorem icreateu (id : Pair) (ra : Reg) (rb : Reg) : Statement (.icreateu id ra rb) := fits_packWord _ _ _ 0x1#4 0x0#4 0x0#4 0xFF#8 rfl (pairBits_and_one _) BitVec.and_zero BitVec.and_zero BitVec.zero_and
theorem iovlv (ia : Pair) (rb : Reg) : Statement (.iovlv ia rb) := fits_packWord _ _ _ 0xF#4 0x1#4 0x0#4 0xFF#8 rfl BitVec.zero_and (pairBits_and_one _) BitVec.and_zero BitVec.zero_and
theorem iovl (ia : Pair) (ib : Pair) : Statement (.iovl ia ib) := fits_packWord _ _ _ 0xF#4 0x1#4 0x1#4 0xFF#8 rfl BitVec.zero_and (pairBits_and_one _) (pairBits_and_one _) BitVec.zero_and
theorem iint (id : Pair) (ia : Pair) (ib : Pair) : Statement (.iint id ia ib) := fits_packWord _ _ _ 0x1#4 0x1#4 0x1#4 0xFF#8 rfl (pairBits_and_one _) (pairBits_and_one _) (pairBits_and_one _) BitVec.zero_and
theorem iunion (id : Pair) (ia : Pair) (ib : Pair) : Statement (.iunion id ia ib) := fits_packWord _ _ _ 0x1#4 0x1#4 0x1#4 0xFF#8 rfl (pairBits_and_one _) (pairBits_and_one _) (pairBits_and_one _) BitVec.zero_and
theorem imtv (rd : Reg) (ia : Pair) (ib : Pair) : Statement (.imtv rd ia ib) := fits_packWord _ _ _ 0x0#4 0x1#4 0x1#4 0xFF#8 rfl BitVec.and_zero (pairBits_and_one _) (pairBits_and_one _) BitVec.zero_and
theorem ieq (ia : Pair) (ib : Pair) : Statement (.ieq ia ib) := fits_packWord _ _ _ 0xF#4 0x1#4 0x1#4 0xFF#8 rfl BitVec.zero_and (pairBits_and_one _) (pairBits_and_one _) BitVec.zero_and
theorem isetlo (id : Pair) (ia : Pair) (rb : Reg) : Statement (.isetlo id ia rb) := fits_packWord _ _ _ 0x1#4 0x1#4 0x0#4 0xFF#8 rfl (pairBits_and_one _) (pairBits_and_one _) BitVec.and_zero BitVec.zero_and
theorem isetlou (id : Pair) (ia : Pair) (rb : Reg) : Statement (.isetlou id ia rb) := fits_packWord _ _ _ 0x1#4 0x1#4 0x0#4 0xFF#8 rfl (pairBits_and_one _) (pairBits_and_one _) BitVec.and_zero BitVec.zero_and
theorem isethi (id : Pair) (ia : Pair) (rb : Reg) : Statement (.isethi id ia rb) := fits_packWord _ _ _ 0x1#4 0x1#4 0x0#4 0xFF#8 rfl (pairBits_and_one _) (pairBits_and_one _) BitVec.and_zero BitVec.zero_and
theorem isethiu (id : Pair) (ia : Pair) (rb : Reg) : Statement (.isethiu id ia rb) := fits_packWord _ _ _ 0x1#4 0x1#4 0x0#4 0xFF#8 rfl (pairBits_and_one _) (pairBits_and_one _) BitVec.and_zero BitVec.zero_and
theorem iaddlo (id : Pair) (ia : Pair) (rb : Reg) : Statement (.iaddlo id ia rb) := fits_packWord _ _ _ 0x1#4 0x1#4 0x0#4 0xFF#8 rfl (pairBits_and_one _) (pairBits_and_one _) BitVec.and_zero BitVec.zero_and
theorem iaddlou (id : Pair) (ia : Pair) (rb : Reg) : Statement (.iaddlou id ia rb) := fits_packWord _ _ _ 0x1#4 0x1#4 0x0#4 0xFF#8 rfl (pairBits_and_one _) (pairBits_and_one _) BitVec.and_zero BitVec.zero_and
theorem iaddhi (id : Pair) (ia : Pair) (rb : Reg) : Statement (.iaddhi id ia rb) := fits_packWord _ _ _ 0x1#4 0x1#4 0x0#4 0xFF#8 rfl (pairBits_and_one _) (pairBits_and_one _) BitVec.and_zero BitVec.zero_and
theorem iaddhiu (id : Pair) (ia : Pair) (rb : Reg) : Statement (.iaddhiu id ia rb) := fits_packWord _ _ _ 0x1#4 0x1#4 0x0#4 0xFF#8 rfl (pairBits_and_one _) (pairBits_and_one _) BitVec.and_zero BitVec.zero_and
theorem itrans (id : Pair) (ia : Pair) (rb : Reg) : Statement (.itrans id ia rb) := fits_packWord _ _ _ 0x1#4 0x1#4 0x0#4 0xFF#8 rfl (pairBits_and_one _) (pairBits_and_one _) BitVec.and_zero BitVec.zero_and
theorem itransu (id : Pair) (ia : Pair) (rb : Reg) : Statement (.itransu id ia rb) := fits_packWord _ _ _ 0x1#4 0x1#4 0x0#4 0xFF#8 rfl (pairBits_and_one _) (pairBits_and_one _) BitVec.and_zero BitVec.zero_and

end Laws.RowMatch

end Sys2Proof
end

