-- ==== Sys2Proof/Tests/Slice0.lean ====
section
/-! SUPPORT. Sys2Proof/Tests/Slice0.lean: the model's own tests.  Every expected value is the spec's: a worked example of the
command's rule, or a vector of spec/95_test_vectors.md (section 2, the section is named).  `witness_<Name>` meets the
hypotheses of the obligation `<Name>`, clause by clause. -/

-- one theorem after another: their checks, run side by side, would ask for more threads than the memory limit allows
set_option Elab.async false

namespace Sys2Proof.Tests

open Sys2Proof.Machine

/-! ## Small states and one step -/

/-- `f0` = `a`, `f1` = `b`, and a mark in `f2` that a raise must leave alone. -/
def st (a b : Scalar) : State := ((State.reset.setF 0 a).setF 1 b).setF 2 0xABCD#64

/-- `i0` = `(a, b)`, `i1` = `(c, d)`, `f4` = `v`. -/
def ist (a b c d v : Scalar) : State :=
  ((((State.reset.setF 0 a).setF 1 b).setF 2 c).setF 3 d).setF 4 v

/-- The next state of one command. -/
def after (i : Instr) (s : State) : State :=
  match exec i s with
  | .next t => t
  | .fault _ => s
  | .refused _ => s

/-- The next state of one step. -/
def stepped (s : State) : State :=
  match step s with
  | .next t => t
  | .fault _ => s
  | .refused _ => s

/-- The response code of the last command, 5 (never produced) if there is none. -/
def code (s : State) : BitVec 4 :=
  match s.responses with
  | [] => 5#4
  | r :: _ => r.resp

/-- The read-data word of the last command. -/
def dataOf (s : State) : BitVec 64 :=
  match s.responses with
  | [] => 0#64
  | r :: _ => r.rdata

/-- Response code and `f2` after a command `f2 <- f0`. -/
def one (mk : Reg → Reg → Instr) (a : Scalar) : BitVec 4 × Scalar :=
  let t := after (mk 2 0) (st a 0#64); (code t, t.getF 2)

/-- Response code and `f2` after a command `f2 <- f0, f1`. -/
def two (mk : Reg → Reg → Reg → Instr) (a b : Scalar) : BitVec 4 × Scalar :=
  let t := after (mk 2 0 1) (st a b); (code t, t.getF 2)

/-- `T` after a command on `f0` and `f1`, started with the other value in `T`. -/
def flag (mk : Reg → Reg → Instr) (a b : Scalar) (expected : Bool) : Bool :=
  (after (mk 0 1) ((st a b).setT (!expected))).fstat.t

/-- `i3` after a command on `i0`, `i1`, `f4`. -/
def pairAfter (i : Instr) (s : State) : Scalar × Scalar := let t := after i s; (t.getF 6, t.getF 7)

/-- The unit has just had word `w` issued, with write data `d`, from state `s`. -/
def issue (w : CmdWord) (d : BitVec 64) (s : State) : State := stepped { s with pending := [.issue ⟨w, d⟩] }

/-- An error of cause 4 is latched by the all-ones word, with `T` = 1. -/
def latched : State :=
  { State.reset with fstat := ⟨true, true, 4#4⟩, fcmd := 0xFFFFFFFF#32, responses := [⟨4#4, 0#64⟩] }

/-- A state whose next command is word `w`. -/
def next (w : CmdWord) (s : State) : State := { s with pending := [.issue ⟨w, 0#64⟩] }

/-! ## WellFormed refuses -/

/-- `LDC f0, #21`: the one check there is (rule R61). -/
theorem test_wellformed_refuses_ldc_21 : ¬ (Instr.ldc 0 21#8).WellFormed := by decide

theorem test_wellformed_accepts_ldc_20 : (Instr.ldc 0 20#8).WellFormed := by decide

/-! ## Decoding: words written out from rules R61, R62, R64 and the examples of each rule -/

theorem test_decode_moves :
    decode 0x01000000#32 = some (.wrr 0) ∧
    decode 0x02020000#32 = some (.rdr 2) ∧
    decode 0x03200000#32 = some (.wri 2) ∧
    decode 0x04020000#32 = some (.rdi 2) ∧
    decode 0x05100007#32 = some (.ldc 1 7#8) ∧
    decode 0x05F00014#32 = some (.ldc 15 20#8) ∧
    decode 0x06510000#32 = some (.mov 5 1) ∧
    decode 0x08000000#32 = some (.rdstat) ∧
    decode 0x09000000#32 = some (.clrerr) := by decide

theorem test_decode_arithmetic :
    decode 0x10312000#32 = some (.add 3 1 2) ∧
    decode 0x11312000#32 = some (.sub 3 1 2) ∧
    decode 0x12312000#32 = some (.mul 3 1 2) ∧
    decode 0x13312000#32 = some (.div 3 1 2) ∧
    decode 0x14312000#32 = some (.mod 3 1 2) ∧
    decode 0x15100000#32 = some (.neg 1 0) ∧
    decode 0x16100000#32 = some (.abs 1 0) ∧
    decode 0x17100000#32 = some (.sign 1 0) := by decide

theorem test_decode_fast :
    decode 0x18312000#32 = some (.fadd 3 1 2) ∧
    decode 0x19312000#32 = some (.fsub 3 1 2) ∧
    decode 0x1A312000#32 = some (.fmul 3 1 2) ∧
    decode 0x1C312000#32 = some (.fmod 3 1 2) ∧
    decode 0x1E100000#32 = some (.fabs 1 0) := by decide

theorem test_decode_round_compare :
    decode 0x20100000#32 = some (.floor 1 0) ∧
    decode 0x21100000#32 = some (.ceil 1 0) ∧
    decode 0x22100000#32 = some (.round 1 0) ∧
    decode 0x23100000#32 = some (.frac 1 0) ∧
    decode 0x24000000#32 = some (.hasfrac 0) ∧
    decode 0x28045000#32 = some (.cmpeq 4 5) ∧
    decode 0x29045000#32 = some (.cmpne 4 5) ∧
    decode 0x2A045000#32 = some (.cmplt 4 5) ∧
    decode 0x2B045000#32 = some (.cmpgt 4 5) ∧
    decode 0x2C045000#32 = some (.cmple 4 5) ∧
    decode 0x2D045000#32 = some (.cmpge 4 5) := by decide

theorem test_decode_transcendental_trig :
    decode 0x30100000#32 = some (.sqrt 1 0) ∧
    decode 0x31100000#32 = some (.log2 1 0) ∧
    decode 0x32100000#32 = some (.ln 1 0) ∧
    decode 0x33100000#32 = some (.pow2 1 0) ∧
    decode 0x34201000#32 = some (.pow 2 0 1) ∧
    decode 0x40100000#32 = some (.sin 1 0) ∧
    decode 0x41100000#32 = some (.cos 1 0) ∧
    decode 0x42100000#32 = some (.tan 1 0) ∧
    decode 0x43100000#32 = some (.atan 1 0) ∧
    decode 0x44100000#32 = some (.acos 1 0) ∧
    decode 0x45201000#32 = some (.atan2 2 0 1) ∧
    decode 0x46100000#32 = some (.todeg 1 0) ∧
    decode 0x47100000#32 = some (.torad 1 0) := by decide

theorem test_decode_interval_build_query :
    decode 0x50254000#32 = some (.icreate 1 5 4) ∧
    decode 0x51254000#32 = some (.icreateu 1 5 4) ∧
    decode 0x52004000#32 = some (.iovlv 0 4) ∧
    decode 0x53002000#32 = some (.iovl 0 1) ∧
    decode 0x54402000#32 = some (.iint 2 0 1) ∧
    decode 0x55402000#32 = some (.iunion 2 0 1) ∧
    decode 0x56602000#32 = some (.imtv 6 0 1) ∧
    decode 0x57002000#32 = some (.ieq 0 1) := by decide

theorem test_decode_interval_mutators :
    decode 0x58004000#32 = some (.isetlo 0 0 4) ∧
    decode 0x59004000#32 = some (.isetlou 0 0 4) ∧
    decode 0x5A204000#32 = some (.isethi 1 0 4) ∧
    decode 0x5B204000#32 = some (.isethiu 1 0 4) ∧
    decode 0x5C004000#32 = some (.iaddlo 0 0 4) ∧
    decode 0x5D004000#32 = some (.iaddlou 0 0 4) ∧
    decode 0x5E004000#32 = some (.iaddhi 0 0 4) ∧
    decode 0x5F004000#32 = some (.iaddhiu 0 0 4) ∧
    decode 0x60204000#32 = some (.itrans 1 0 4) ∧
    decode 0x61204000#32 = some (.itransu 1 0 4) := by decide

/-- 95 section 2.7. -/
theorem test_decode_refuses_illegal_words :
    decode 0x00000000#32 = none ∧
    decode 0xFFFFFFFF#32 = none ∧
    decode 0x10312100#32 = none ∧
    decode 0x10312001#32 = none ∧
    decode 0x15312000#32 = none ∧
    decode 0x54502000#32 = none ∧
    decode 0x53012000#32 = none ∧
    decode 0x1B312000#32 = none ∧
    decode 0x07000000#32 = none ∧
    decode 0x0A000000#32 = none ∧
    decode 0x62000000#32 = none ∧
    decode 0x48000000#32 = none ∧
    decode 0x05F00015#32 = none ∧
    decode 0x08100000#32 = none ∧
    decode 0x08000001#32 = none := by decide

/-! ## Moves, conversions, status (95 section 2.1) -/

theorem test_wrr : (issue 0x01000000#32 0x0000000180000000#64 State.reset).getF 0 = 0x0000000180000000#64 := by decide

theorem test_wri :
    (issue 0x03200000#32 0xFFFFFFFFFFFFFFF9#64 State.reset).getF 2 = 0xFFFFFFF900000000#64 ∧
    (issue 0x03200000#32 0x0000000100000005#64 State.reset).getF 2 = 0x0000000500000000#64 ∧
    (issue 0x03200000#32 0x0000000080000000#64 State.reset).getF 2 = 0x8000000000000000#64 := by decide

/-- Example S1. -/
theorem test_rdr : dataOf (after (.rdr 0) (st 0xDEADBEEF01234567#64 0#64)) = 0xDEADBEEF01234567#64 := by decide

theorem test_rdi :
    dataOf (after (.rdi 0) (st 0xFFFFFFFE80000000#64 0#64)) = 0xFFFFFFFFFFFFFFFE#64 ∧
    dataOf (after (.rdi 0) (st 0x8000000000000000#64 0#64)) = 0xFFFFFFFF80000000#64 ∧
    dataOf (after (.rdi 0) (st 0x0000000180000000#64 0#64)) = 1#64 := by decide

theorem test_ldc :
    (after (.ldc 1 7#8) State.reset).getF 1 = 0x00000003243F6A88#64 ∧
    (after (.ldc 1 20#8) State.reset).getF 1 = 0x0000000300000000#64 := by decide

/-- `LDC f15, #21`: cause 4 and `f15` unchanged. -/
theorem test_ldc_21 :
    code (issue 0x05F00015#32 0#64 State.reset) = 4#4 ∧
    (issue 0x05F00015#32 0#64 (State.reset.setF 15 7#64)).getF 15 = 7#64 := by decide

theorem test_mov : (after (.mov 5 1) (st 0#64 0x00000003243F6A88#64)).getF 5 = 0x00000003243F6A88#64 := by decide

/-- Rule R86's example: `DIV f2, f0, f1` has raised, `T` was 1. -/
theorem test_rdstat :
    dataOf (issue 0x08000000#32 0#64 (issue 0x13201000#32 0#64 ((st 1#64 0#64).setT true))) = 0x1320100000000013#64 ∧
    dataOf (issue 0x08000000#32 0#64 State.reset) = 0#64 := by decide

/-- Rule R87's example. -/
theorem test_clrerr :
    dataOf (issue 0x08000000#32 0#64 (issue 0x09000000#32 0#64 latched)) = 1#64 ∧
    (issue 0x09000000#32 0#64 latched).fcmd = 0#32 := by decide

/-! ## The error latch (95 section 2.7) -/

theorem test_illegal_word_latches :
    code (issue 0xFFFFFFFF#32 0#64 State.reset) = 4#4 ∧
    (issue 0xFFFFFFFF#32 0#64 State.reset).fstat = ⟨false, true, 4#4⟩ ∧
    (issue 0xFFFFFFFF#32 0#64 State.reset).fcmd = 0xFFFFFFFF#32 := by decide

theorem test_blocked :
    code (issue 0x10312000#32 0#64 latched) = 0xF#4 ∧ code (issue 0x00000000#32 0#64 latched) = 0xF#4 ∧
    code (issue 0x08100000#32 0#64 latched) = 0xF#4 ∧ code (issue 0x08000000#32 0#64 latched) = 0#4 ∧
    (issue 0x00000000#32 0#64 latched).fcmd = 0xFFFFFFFF#32 := by decide

/-- Responses are numbered from 1, as in program P3: the second of `OK`, `ILLEGAL` is where the run faulted. -/
theorem test_faulted_at :
    FaultedAt (issue 0xFFFFFFFF#32 0#64 (issue 0x05100007#32 0#64 State.reset)) 2 ∧
    ¬ FaultedAt (issue 0xFFFFFFFF#32 0#64 (issue 0x05100007#32 0#64 State.reset)) 1 := by
  refine ⟨⟨⟨4#4, 0#64⟩, by decide, .illegalCommand, rfl⟩, ?_⟩
  rintro ⟨r, hr, c, hc⟩
  have h : responseAt (issue 0xFFFFFFFF#32 0#64 (issue 0x05100007#32 0#64 State.reset)) 1 = some ⟨0#4, 0#64⟩ := by decide
  rw [h] at hr
  cases hr
  cases c <;> exact absurd hc (by decide)

/-- The host's probe: a row's word placed after reset is run by the next step. -/
theorem test_withFetchWord_runs :
    (stepped (State.reset.withFetchWord 32 0x05100007)).getF 1 = 0x00000003243F6A88#64 ∧
    decodeTableWord 32 0x10312000 = some (.add 3 1 2) := by decide

/-- The state when reset ends is the one rule R32 gives, and an asserted reset leaves the same `FSTAT` and `FCMD`. -/
theorem test_reset :
    State.reset.fstat.word = 0#32 ∧ State.reset.fcmd = 0#32 ∧
    (stepped { latched with pending := [.reset] }).fstat.word = 0#32 ∧
    (stepped { latched with pending := [.reset] }).fcmd = 0#32 := by decide

/-! ## Arithmetic, rounding, root, logarithm, power, trigonometry (95 sections 2.2 to 2.5) -/

theorem test_add :
    two .add 0x7FFFFFFFFFFFFFFF#64 0x0000000000000001#64 = (0#4, 0x7FFFFFFFFFFFFFFF#64) ∧
    two .add 0x8000000000000000#64 0xFFFFFFFFFFFFFFFF#64 = (0#4, 0x8000000000000000#64) ∧
    two .add 0x7FFFFFFFFFFFFFFF#64 0x8000000000000000#64 = (0#4, 0xFFFFFFFFFFFFFFFF#64) := by decide +kernel

theorem test_sub :
    two .sub 0x7FFFFFFFFFFFFFFF#64 0xFFFFFFFFFFFFFFFF#64 = (0#4, 0x7FFFFFFFFFFFFFFF#64) ∧
    two .sub 0xFFFFFFFFFFFFFFFF#64 0x8000000000000000#64 = (0#4, 0x7FFFFFFFFFFFFFFF#64) ∧
    two .sub 0x0000000000000000#64 0x8000000000000000#64 = (0#4, 0x7FFFFFFFFFFFFFFF#64) := by decide +kernel

theorem test_mul :
    two .mul 0xFFFFFFFE80000000#64 0x0000000200000000#64 = (0#4, 0xFFFFFFFD00000000#64) ∧
    two .mul 0xFFFFFFFF80000000#64 0x0000000000000001#64 = (0#4, 0xFFFFFFFFFFFFFFFF#64) ∧
    two .mul 0x0001000000000000#64 0x0000800000000000#64 = (0#4, 0x7FFFFFFFFFFFFFFF#64) ∧
    two .mul 0x0001000000000000#64 0xFFFF800000000000#64 = (0#4, 0x8000000000000000#64) := by decide +kernel

theorem test_div :
    two .div 0xFFFFFFFE00000000#64 0x0000000300000000#64 = (0#4, 0xFFFFFFFF55555555#64) ∧
    two .div 0x0000000000000001#64 0x0000000200000000#64 = (0#4, 0x0000000000000001#64) ∧
    two .div 0xFFFFFFFFFFFFFFFF#64 0x0000000200000000#64 = (0#4, 0xFFFFFFFFFFFFFFFF#64) ∧
    two .div 0x8000000000000000#64 0x0000000100000000#64 = (0#4, 0x8000000000000000#64) ∧
    two .div 0x0000000100000000#64 0x0000000000000000#64 = (1#4, 0xABCD#64) := by decide +kernel

theorem test_mod :
    two .mod 0xFFFFFFF880000000#64 0x0000000200000000#64 = (0#4, 0xFFFFFFFE80000000#64) ∧
    two .mod 0x0000000780000000#64 0xFFFFFFFE00000000#64 = (0#4, 0x0000000180000000#64) ∧
    two .mod 0x8000000000000000#64 0xFFFFFFFFFFFFFFFF#64 = (0#4, 0x0000000000000000#64) ∧
    two .mod 0x0000000100000000#64 0x0000000000000000#64 = (1#4, 0xABCD#64) := by decide +kernel

theorem test_neg :
    one .neg 0x0000000100000000#64 = (0#4, 0xFFFFFFFF00000000#64) ∧
    one .neg 0x8000000000000000#64 = (0#4, 0x7FFFFFFFFFFFFFFF#64) := by decide +kernel

theorem test_abs :
    one .abs 0xFFFFFFFF00000000#64 = (0#4, 0x0000000100000000#64) ∧
    one .abs 0x8000000000000000#64 = (0#4, 0x7FFFFFFFFFFFFFFF#64) := by decide +kernel

theorem test_sign :
    one .sign 0xFFFFFFFD80000000#64 = (0#4, 0xFFFFFFFF00000000#64) ∧
    one .sign 0x0000000000000000#64 = (0#4, 0x0000000000000000#64) ∧
    one .sign 0x0000000000000001#64 = (0#4, 0x0000000100000000#64) := by decide +kernel

theorem test_fadd :
    two .fadd 0x0000000100000000#64 0x0000000200000000#64 = (0#4, 0x0000000300000000#64) ∧
    two .fadd 0x7FFFFFFFFFFFFFFF#64 0x0000000000000001#64 = (0#4, 0x8000000000000000#64) := by decide +kernel

theorem test_fsub :
    two .fsub 0x0000000100000000#64 0x0000000200000000#64 = (0#4, 0xFFFFFFFF00000000#64) ∧
    two .fsub 0x0000000000000000#64 0x8000000000000000#64 = (0#4, 0x8000000000000000#64) := by decide +kernel

theorem test_fmul :
    two .fmul 0xFFFFFFFFFFFFFFFF#64 0x0000000000000001#64 = (0#4, 0xFFFFFFFFFFFFFFFF#64) ∧
    two .fmul 0x0001000000000000#64 0x0000800000000000#64 = (0#4, 0x8000000000000000#64) := by decide +kernel

theorem test_fmod :
    two .fmod 0xFFFFFFF880000000#64 0x0000000200000000#64 = (0#4, 0xFFFFFFFE80000000#64) ∧
    two .fmod 0x8000000000000000#64 0xFFFFFFFF00000000#64 = (0#4, 0x0000000000000000#64) ∧
    two .fmod 0x0000000100000000#64 0x0000000000000000#64 = (3#4, 0xABCD#64) ∧
    two .fmod 0x8000000000000000#64 0xFFFFFFFFFFFFFFFF#64 = (3#4, 0xABCD#64) := by decide +kernel

theorem test_fabs :
    one .fabs 0xFFFFFFFF00000000#64 = (0#4, 0x0000000100000000#64) ∧
    one .fabs 0x8000000000000000#64 = (0#4, 0x8000000000000000#64) := by decide +kernel

theorem test_floor :
    one .floor 0x0000000180000000#64 = (0#4, 0x0000000100000000#64) ∧
    one .floor 0xFFFFFFFE80000000#64 = (0#4, 0xFFFFFFFE00000000#64) := by decide +kernel

theorem test_ceil :
    one .ceil 0xFFFFFFFE80000000#64 = (0#4, 0xFFFFFFFF00000000#64) ∧
    one .ceil 0x0000000000000001#64 = (0#4, 0x0000000100000000#64) ∧
    one .ceil 0x7FFFFFFF00000001#64 = (0#4, 0x7FFFFFFFFFFFFFFF#64) := by decide +kernel

theorem test_round :
    one .round 0x0000000080000000#64 = (0#4, 0x0000000000000000#64) ∧
    one .round 0x0000000180000000#64 = (0#4, 0x0000000200000000#64) ∧
    one .round 0x0000000280000000#64 = (0#4, 0x0000000200000000#64) ∧
    one .round 0xFFFFFFFD80000000#64 = (0#4, 0xFFFFFFFE00000000#64) ∧
    one .round 0x7FFFFFFF80000000#64 = (0#4, 0x7FFFFFFFFFFFFFFF#64) := by decide +kernel

theorem test_frac :
    one .frac 0xFFFFFFFEC0000000#64 = (0#4, 0x00000000C0000000#64) ∧
    one .frac 0xFFFFFFFFFFFFFFFF#64 = (0#4, 0x00000000FFFFFFFF#64) := by decide +kernel

theorem test_sqrt :
    one .sqrt 0x0000000000000002#64 = (0#4, 0x0000000000016A0A#64) ∧
    one .sqrt 0x0000000200000000#64 = (0#4, 0x000000016A09E668#64) ∧
    one .sqrt 0x7FFFFFFFFFFFFFFF#64 = (0#4, 0x0000B504F333F9DE#64) ∧
    one .sqrt 0xFFFFFFFFFFFFFFFF#64 = (2#4, 0xABCD#64) := by decide +kernel

theorem test_log2 :
    one .log2 0x0000000000000001#64 = (0#4, 0xFFFFFFE000000000#64) ∧
    one .log2 0x7FFFFFFFFFFFFFFF#64 = (0#4, 0x0000001EFFFFFFFF#64) ∧
    one .log2 0x0000000300000000#64 = (0#4, 0x0000000195C01A39#64) ∧
    one .log2 0x0000000000000000#64 = (2#4, 0xABCD#64) := by decide +kernel

theorem test_ln :
    one .ln 0x0000000080000000#64 = (0#4, 0xFFFFFFFF4E8DE809#64) ∧
    one .ln 0x0000000A00000000#64 = (0#4, 0x000000024D763773#64) ∧
    one .ln 0x0000000000000000#64 = (2#4, 0xABCD#64) := by decide +kernel

theorem test_pow2 :
    one .pow2 0x0000000080000000#64 = (0#4, 0x000000016A09E666#64) ∧
    one .pow2 0xFFFFFFFF80000000#64 = (0#4, 0x00000000B504F335#64) ∧
    one .pow2 0x0000000A00000000#64 = (0#4, 0x0000040000000000#64) ∧
    one .pow2 0x0000001EFFFFFFFF#64 = (0#4, 0x7FFFFFFEC0000000#64) ∧
    one .pow2 0xFFFFFFE100000000#64 = (0#4, 0x0000000000000002#64) ∧
    one .pow2 0xFFFFFFE0FFFFFFFF#64 = (0#4, 0x0000000000000001#64) := by decide +kernel

theorem test_pow :
    two .pow 0x0000000300000000#64 0x0000000200000000#64 = (0#4, 0x00000008FFFFFFE0#64) ∧
    two .pow 0x0000000000000000#64 0x0000000000000000#64 = (0#4, 0x0000000100000000#64) ∧
    two .pow 0xFFFFFFFF00000000#64 0x0000000000000000#64 = (0#4, 0x0000000100000000#64) ∧
    two .pow 0x0000000000000000#64 0xFFFFFFFFFFFFFFFF#64 = (1#4, 0xABCD#64) ∧
    two .pow 0xFFFFFFFF00000000#64 0x0000000200000000#64 = (2#4, 0xABCD#64) := by decide +kernel

theorem test_sin :
    one .sin 0x0000001E00000000#64 = (0#4, 0x0000000080000000#64) ∧
    one .sin 0x0000000000400000#64 = (0#4, 0x0000000000011DF4#64) ∧
    one .sin 0xFFFFFFFFFFFFFFFF#64 = (0#4, 0xFFFFFFFFFFFEE20C#64) ∧
    one .sin 0x0000005A00000001#64 = (0#4, 0x0000000100000000#64) ∧
    one .sin 0x8000000000000000#64 = (0#4, 0xFFFFFFFF3644ED60#64) := by decide +kernel

theorem test_cos :
    one .cos 0x0000003C00000000#64 = (0#4, 0x0000000080000000#64) ∧
    one .cos 0xFFFFFFA600000000#64 = (0#4, 0x0000000000000000#64) ∧
    one .cos 0x7FFFFFFFFFFFFFFF#64 = (0#4, 0xFFFFFFFF6264E3C8#64) := by decide +kernel

theorem test_tan :
    one .tan 0x0000002D00000000#64 = (0#4, 0x0000000100000000#64) ∧
    one .tan 0x00000059FFFFFFFF#64 = (0#4, 0x0000E52EE0D2BEBE#64) ∧
    one .tan 0x0000005A00000001#64 = (0#4, 0xFFFF1AD11F2D4142#64) ∧
    one .tan 0xFFFFFFA600000000#64 = (0#4, 0x8000000000000000#64) ∧
    one .tan 0x8000000000000000#64 = (0#4, 0x0000000147AA413B#64) := by decide +kernel

theorem test_atan :
    one .atan 0x0000000000000001#64 = (0#4, 0x0000000000000039#64) ∧
    one .atan 0x0000000100000000#64 = (0#4, 0x0000002CFFFFFC80#64) ∧
    one .atan 0x0000000100000001#64 = (0#4, 0x0000002D0000038D#64) ∧
    one .atan 0x8000000000000000#64 = (0#4, 0xFFFFFFA600000072#64) := by decide +kernel

theorem test_acos :
    one .acos 0x0000000080000000#64 = (0#4, 0x0000003C00000119#64) ∧
    one .acos 0xFFFFFFFF80000000#64 = (0#4, 0x00000077FFFFFEE7#64) ∧
    one .acos 0xFFFFFFFF00000000#64 = (0#4, 0x000000B400000000#64) ∧
    one .acos 0x0000000100000001#64 = (2#4, 0xABCD#64) := by decide +kernel

theorem test_atan2 :
    two .atan2 0x0000000100000000#64 0xFFFFFFFF00000000#64 = (0#4, 0x0000008700000380#64) ∧
    two .atan2 0xFFFFFFFF00000000#64 0xFFFFFFFF00000000#64 = (0#4, 0xFFFFFF78FFFFFC80#64) ∧
    two .atan2 0x0000000000000000#64 0xFFFFFFFF00000000#64 = (0#4, 0x000000B400000000#64) ∧
    two .atan2 0xFFFFFFFF00000000#64 0x0000000000000000#64 = (0#4, 0xFFFFFFA600000000#64) ∧
    two .atan2 0x0000000000000000#64 0x0000000000000000#64 = (0#4, 0x0000000000000000#64) := by decide +kernel

theorem test_todeg :
    one .todeg 0x00000003243F6A88#64 = (0#4, 0x000000B400000000#64) ∧
    one .todeg 0x00000006487ED511#64 = (0#4, 0x0000016800000039#64) ∧
    one .todeg 0x7FFFFFFFFFFFFFFF#64 = (0#4, 0x28BE60DB9A562C03#64) := by decide +kernel

theorem test_torad :
    one .torad 0x0000002D00000000#64 = (0#4, 0x00000000C90FDAA2#64) ∧
    one .torad 0x0000016800000000#64 = (0#4, 0x00000006487ED510#64) ∧
    one .torad 0x7FFFFFFFFFFFFFFF#64 = (0#4, 0x00B60B60B60B60B6#64) := by decide +kernel

theorem test_hasfrac :
    flag (fun a _ => .hasfrac a) 0x0000000100000000#64 0#64 false = false ∧
    flag (fun a _ => .hasfrac a) 0x0000000000000001#64 0#64 true = true := by decide

/-- `a` = `MinValue`, `b` = `MaxValue`: an unsigned comparison would give the opposite for the last four. -/
theorem test_comparisons_signed :
    flag .cmpeq constMinValue constMaxValue false = false ∧ flag .cmpne constMinValue constMaxValue true = true ∧
    flag .cmplt constMinValue constMaxValue true = true ∧ flag .cmpgt constMinValue constMaxValue false = false ∧
    flag .cmple constMinValue constMaxValue true = true ∧ flag .cmpge constMinValue constMaxValue false = false := by decide

theorem test_comparisons_equal :
    flag .cmpeq constMinusOne constMinusOne true = true ∧ flag .cmpne constMinusOne constMinusOne false = false ∧
    flag .cmplt constMinusOne constMinusOne false = false ∧ flag .cmpgt constMinusOne constMinusOne false = false ∧
    flag .cmple constMinusOne constMinusOne true = true ∧ flag .cmpge constMinusOne constMinusOne true = true := by decide

/-- Rule R11, program P1 step 5: the destination is also a source. -/
theorem test_add_in_place :
    (after (.add 0 0 1) (st 0x0000000900000000#64 0x0000001000000000#64)).getF 0 = 0x0000001900000000#64 := by decide

/-- Rules R42, R43: sample entries of the tables. -/
theorem test_table_samples :
    config.sinTable 1 = 73204#64 ∧ config.sinTable 10240 = 0x000000002C7434FC#64 ∧
    config.sinTable 92158 = 0x00000000FFFFFFFE#64 ∧ config.tanTable 10240 = 0x000000002D23C3D8#64 ∧
    config.tanTable 46080 = 0x0000000100000000#64 ∧ config.tanTable 92159 = 0x0000E52EE0D2BEBE#64 := by decide +kernel

/-! ## Intervals (95 section 2.6) -/

theorem test_icreate :
    pairAfter (.icreate 3 0 1) (ist 0x300000000#64 0x100000000#64 0#64 0#64 0#64) = (0x100000000#64, 0x300000000#64) ∧
    pairAfter (.icreate 3 0 1) (ist 0x100000000#64 0x300000000#64 0#64 0#64 0#64) = (0x100000000#64, 0x300000000#64) ∧
    pairAfter (.icreate 3 0 1) (ist 0x7FFFFFFFFFFFFFFF#64 0x8000000000000000#64 0#64 0#64 0#64) = (0x8000000000000000#64, 0x7FFFFFFFFFFFFFFF#64) := by decide +kernel

theorem test_icreateu :
    pairAfter (.icreateu 3 0 1) (ist 0x300000000#64 0x100000000#64 0#64 0#64 0#64) = (0x300000000#64, 0x100000000#64) := by decide +kernel

theorem test_iovlv :
    (after (.iovlv 0 4) ((ist 0x0#64 0x100000000#64 0x0#64 0x0#64 0x0#64).setT false)).fstat.t = true ∧
    (after (.iovlv 0 4) ((ist 0x0#64 0x100000000#64 0x0#64 0x0#64 0x80000000#64).setT false)).fstat.t = true ∧
    (after (.iovlv 0 4) ((ist 0x0#64 0x100000000#64 0x0#64 0x0#64 0x100000000#64).setT false)).fstat.t = true ∧
    (after (.iovlv 0 4) ((ist 0x0#64 0x100000000#64 0x0#64 0x0#64 0x100000001#64).setT true)).fstat.t = false ∧
    (after (.iovlv 0 4) ((ist 0x0#64 0x100000000#64 0x0#64 0x0#64 0xFFFFFFFFFFFFFFFF#64).setT true)).fstat.t = false := by decide +kernel

theorem test_iovl :
    (after (.iovl 0 1) ((ist 0x0#64 0x100000000#64 0x80000000#64 0x180000000#64 0#64).setT false)).fstat.t = true ∧
    (after (.iovl 0 1) ((ist 0x0#64 0x100000000#64 0x100000000#64 0x200000000#64 0#64).setT false)).fstat.t = true ∧
    (after (.iovl 0 1) ((ist 0x0#64 0x100000000#64 0x200000000#64 0x300000000#64 0#64).setT true)).fstat.t = false := by decide +kernel

theorem test_ieq :
    (after (.ieq 0 1) ((ist 0x0#64 0x100000000#64 0x0#64 0x100000000#64 0#64).setT false)).fstat.t = true ∧
    (after (.ieq 0 1) ((ist 0x0#64 0x100000000#64 0x100000000#64 0x0#64 0#64).setT true)).fstat.t = false := by decide +kernel

theorem test_iint :
    (after (.iint 3 0 1) ((ist 0x0#64 0x100000000#64 0x80000000#64 0x180000000#64 0#64).setT false)).fstat.t = true ∧
    pairAfter (.iint 3 0 1) (ist 0x0#64 0x100000000#64 0x80000000#64 0x180000000#64 0#64) = (0x80000000#64, 0x100000000#64) ∧
    (after (.iint 3 0 1) ((ist 0x0#64 0x100000000#64 0x100000000#64 0x200000000#64 0#64).setT false)).fstat.t = true ∧
    pairAfter (.iint 3 0 1) (ist 0x0#64 0x100000000#64 0x100000000#64 0x200000000#64 0#64) = (0x100000000#64, 0x100000000#64) ∧
    (after (.iint 3 0 1) ((ist 0x0#64 0x100000000#64 0x200000000#64 0x300000000#64 0#64).setT true)).fstat.t = false ∧
    pairAfter (.iint 3 0 1) (ist 0x0#64 0x100000000#64 0x200000000#64 0x300000000#64 0#64) = (0x0#64, 0x0#64) ∧
    (after (.iint 3 0 1) ((ist 0xFFFFFFFF00000000#64 0x0#64 0x0#64 0x100000000#64 0#64).setT false)).fstat.t = true ∧
    pairAfter (.iint 3 0 1) (ist 0xFFFFFFFF00000000#64 0x0#64 0x0#64 0x100000000#64 0#64) = (0x0#64, 0x0#64) := by decide +kernel

theorem test_iunion :
    pairAfter (.iunion 3 0 1) (ist 0x0#64 0x100000000#64 0x80000000#64 0x180000000#64 0#64) = (0x0#64, 0x180000000#64) ∧
    pairAfter (.iunion 3 0 1) (ist 0x0#64 0x100000000#64 0x200000000#64 0x300000000#64 0#64) = (0x0#64, 0x300000000#64) ∧
    pairAfter (.iunion 3 0 1) (ist 0x0#64 0x100000000#64 0x0#64 0x100000000#64 0#64) = (0x0#64, 0x100000000#64) := by decide +kernel

theorem test_imtv :
    (after (.imtv 6 0 1) (ist 0x0#64 0x100000000#64 0x80000000#64 0x180000000#64 0#64)).getF 6 = 0xFFFFFFFF80000000#64 ∧
    (after (.imtv 6 0 1) (ist 0x80000000#64 0x180000000#64 0x0#64 0x100000000#64 0#64)).getF 6 = 0x80000000#64 ∧
    (after (.imtv 6 0 1) (ist 0x0#64 0x100000000#64 0x200000000#64 0x300000000#64 0#64)).getF 6 = 0x0#64 ∧
    (after (.imtv 6 0 1) (ist 0x0#64 0x100000000#64 0x0#64 0x100000000#64 0#64)).getF 6 = 0xFFFFFFFF00000000#64 ∧
    (after (.imtv 6 0 1) (ist 0x8000000000000000#64 0x7FFFFFFFFFFFFFFF#64 0x8000000000000000#64 0x7FFFFFFFFFFFFFFF#64 0#64)).getF 6 = 0x8000000000000001#64 := by decide +kernel

theorem test_isetlo :
    pairAfter (.isetlo 3 0 4) (ist 0x0#64 0x100000000#64 0x0#64 0x0#64 0x500000000#64) = (0x100000000#64, 0x500000000#64) := by decide +kernel

theorem test_isetlou :
    pairAfter (.isetlou 3 0 4) (ist 0x0#64 0x100000000#64 0x0#64 0x0#64 0x500000000#64) = (0x500000000#64, 0x100000000#64) := by decide +kernel

theorem test_isethi :
    pairAfter (.isethi 3 0 4) (ist 0x0#64 0x100000000#64 0x0#64 0x0#64 0xFFFFFFFE00000000#64) = (0xFFFFFFFE00000000#64, 0x0#64) := by decide +kernel

theorem test_isethiu :
    pairAfter (.isethiu 3 0 4) (ist 0x0#64 0x100000000#64 0x0#64 0x0#64 0xFFFFFFFE00000000#64) = (0x0#64, 0xFFFFFFFE00000000#64) := by decide +kernel

theorem test_iaddlo :
    pairAfter (.iaddlo 3 0 4) (ist 0x0#64 0x100000000#64 0x0#64 0x0#64 0x300000000#64) = (0x100000000#64, 0x300000000#64) := by decide +kernel

theorem test_iaddlou :
    pairAfter (.iaddlou 3 0 4) (ist 0x0#64 0x100000000#64 0x0#64 0x0#64 0x300000000#64) = (0x300000000#64, 0x100000000#64) := by decide +kernel

theorem test_iaddhi :
    pairAfter (.iaddhi 3 0 4) (ist 0x0#64 0x100000000#64 0x0#64 0x0#64 0xFFFFFFFD00000000#64) = (0xFFFFFFFE00000000#64, 0x0#64) := by decide +kernel

theorem test_iaddhiu :
    pairAfter (.iaddhiu 3 0 4) (ist 0x0#64 0x100000000#64 0x0#64 0x0#64 0xFFFFFFFD00000000#64) = (0x0#64, 0xFFFFFFFE00000000#64) := by decide +kernel

theorem test_itrans :
    pairAfter (.itrans 3 0 4) (ist 0x0#64 0x100000000#64 0x0#64 0x0#64 0x280000000#64) = (0x280000000#64, 0x380000000#64) ∧
    pairAfter (.itrans 3 0 4) (ist 0x7FFFFFFEFFFFFFFF#64 0x7FFFFFFFFFFFFFFF#64 0x0#64 0x0#64 0x200000000#64) = (0x7FFFFFFFFFFFFFFF#64, 0x7FFFFFFFFFFFFFFF#64) ∧
    pairAfter (.itrans 3 0 4) (ist 0x300000000#64 0x100000000#64 0x0#64 0x0#64 0x100000000#64) = (0x200000000#64, 0x400000000#64) := by decide +kernel

theorem test_itransu :
    pairAfter (.itransu 3 0 4) (ist 0x300000000#64 0x100000000#64 0x0#64 0x0#64 0x100000000#64) = (0x400000000#64, 0x200000000#64) := by decide +kernel

/-- Rule R207's example with `UNION_INVERTED` = true: `IUNION i2, i0, i1` on `[0, 1]` and `[2, 3]` leaves `(3, 0)`. -/
theorem test_iunion_inverted_runs :
    (match stepWith { config with unionInverted := true }
        (next 0x55402000#32 (ist constZero constOne constTwo constThree 0#64)) with
      | .next t => some (t.getF 4, t.getF 5)
      | _ => none) = some (constThree, constZero) := by decide

/-- `UNION_INVERTED` = true. -/
theorem test_union_inverted :
    Fix.union true ⟨constZero, constOne⟩ ⟨constHalf, 0x180000000#64⟩ = ⟨0x180000000#64, constZero⟩ ∧
    Fix.union true ⟨constZero, constOne⟩ ⟨constZero, constOne⟩ = ⟨constOne, constZero⟩ := by decide

/-- Program P2 step 5: the sources are the registers of the destination pair. -/
theorem test_icreate_in_place :
    ((after (.icreate 0 0 1) (st 0x180000000#64 constHalf)).getF 0, (after (.icreate 0 0 1) (st 0x180000000#64 constHalf)).getF 1)
      = (constHalf, 0x180000000#64) := by decide

/-! ## Assembly (rules R68, R69) -/

theorem test_assembly :
    asmText (.add 3 1 2) 0#64 = "ADD f3, f1, f2" ∧ asmText (.iint 2 0 1) 0#64 = "IINT i2, i0, i1" ∧
    asmText (.ldc 1 7#8) 0#64 = "LDC f1, #7" ∧ constNames[7]? = some "Pi" := by decide +kernel

theorem test_pseudo_expansion :
    Pseudo.expand (.imov 1 0) = [⟨encode (.mov 2 0), 0#64⟩, ⟨encode (.mov 3 1), 0#64⟩] ∧
    Pseudo.expand (.ld1 4) = [⟨0x05400001#32, 0#64⟩] := by decide
/-! ## Witnesses: the hypotheses of every obligation can be met -/

theorem witness_DecodeOfEncodeIsTheInstruction :
    (Instr.ldc 15 20#8).WellFormed ∧ (Instr.iint 7 0 7).WellFormed := by decide

theorem witness_EncodeOfDecodeIsTheWord : decode 0x05F00014#32 = some (.ldc 15 20#8) := by decide

theorem witness_IllegalWordRaisesIllegalCommand :
    (next 0xFFFFFFFF#32 State.reset).pending = [.issue ⟨0xFFFFFFFF#32, 0#64⟩] ∧
    (next 0xFFFFFFFF#32 State.reset).fstat.err = false ∧ IllegalWord 0xFFFFFFFF#32 ∧ IllegalWord 0x05F00015#32 ∧
    ¬ IllegalWord 0x05F00014#32 := by
  refine ⟨rfl, rfl, ?_, ?_, ?_⟩ <;> unfold IllegalWord fieldWrong <;> decide +kernel

theorem witness_AtMostOneRowMatches :
    (⟨"ADD", 0x10#8, .dab⟩ : OpRow) ∈ opcodeTable ∧ fits .dab 0x10#8 0x10312000#32 = true ∧
    decode 0x10312000#32 = some (.add 3 1 2) := by decide

theorem witness_StepRunsTheDecodedCommand :
    ((next 0x10312000#32 State.reset).fstat.err = false ∧ decode 0x10312000#32 = some (.add 3 1 2)) ∧
    ((next 0x08000000#32 latched).fstat.err = true ∧ decode 0x08000000#32 = some .rdstat) ∧
    decode 0x09000000#32 = some .clrerr := by decide

theorem witness_LatchedUnitAnswersBlocked :
    (next 0x08000001#32 latched).pending = [.issue ⟨0x08000001#32, 0#64⟩] ∧ latched.fstat.err = true ∧
    (0x08000001#32 : CmdWord) ≠ 0x08000000#32 ∧ (0x08000001#32 : CmdWord) ≠ 0x09000000#32 := by decide

/-- The invariant holds with an error latched, and the step from there clears it. -/
theorem witness_LatchAndResponsesStayConsistent :
    Inv (next 0x09000000#32 latched) ∧
    step (next 0x09000000#32 latched) = .next (stepped (next 0x09000000#32 latched)) := by
  refine ⟨⟨⟨fun h => absurd h (by decide), fun _ => Or.inl ⟨by decide, by decide⟩⟩, ?_⟩, rfl⟩
  intro r hr
  have h : r = ⟨4#4, 0#64⟩ := by simpa [next, latched] using hr
  subst h
  decide

theorem witness_IdleUnitKeepsItsState : latched.pending = [] := rfl

theorem witness_ResetClearsTheLatch :
    ({ latched with pending := [.reset, .reset] } : State).pending = .reset :: [.reset] := rfl

theorem witness_RaiseRecordsOnlyTheLatch :
    step (next 0x00000000#32 State.reset) = .next (stepped (next 0x00000000#32 State.reset)) ∧
    (stepped (next 0x00000000#32 State.reset)).responses = [⟨Cause.code .illegalCommand, 0#64⟩] := by
  exact ⟨rfl, by decide⟩

theorem witness_OnlyListedCommandsRaise :
    (Instr.div 2 0 1).WellFormed ∧ (Instr.ldc 0 20#8).WellFormed ∧ mayRaise (.div 2 0 1) = [.divisionByZero] ∧
    mayRaise (.ldc 0 20#8) = [] := by decide

/-- `DIV f2, f0, f1` with `f1` = 0, then `CLRERR`, then the same word. -/
def divTwice : State :=
  { st 1#64 0#64 with
    pending := [.issue ⟨0x13201000#32, 0#64⟩, .issue ⟨0x09000000#32, 9#64⟩, .issue ⟨0x13201000#32, 0#64⟩] }

theorem witness_ReissueAfterClearRaisesTheSameCause :
    step divTwice = .next (stepped divTwice) ∧
    (stepped divTwice).responses = [⟨Cause.code .divisionByZero, 0#64⟩] := by
  exact ⟨rfl, by decide +kernel⟩

theorem witness_OnlyClrerrOrResetUnblocks :
    latched.fstat.err = true ∧ (stepped (next 0x09000000#32 latched)).fstat.err = false ∧
    (stepped { latched with pending := [.reset] }).fstat.err = false := by decide

theorem witness_CommandFrame :
    exec (.add 2 0 1) (st 1#64 2#64) = .next (after (.add 2 0 1) (st 1#64 2#64)) ∧
    (1 : Reg) ∉ writes (.add 2 0 1) ∧ writesTruth (.add 2 0 1) = false ∧
    code (after (.add 2 0 1) (st 1#64 2#64)) = respOk ∧ code (after (.div 2 0 1) (st 1#64 0#64)) ≠ respOk := by
  refine ⟨rfl, ?_, ?_, ?_, ?_⟩ <;> decide +kernel

theorem witness_TruthFlagWrittenAndReadAsListed :
    Instr.cmplt 0 1 ≠ .rdstat ∧ writesTruth (.cmplt 0 1) = true ∧ writesTruth .clrerr = false := by decide

/-- Two states that agree on `f0` and `f1` and differ in `f9`. -/
theorem witness_ResultDependsOnlyOnSources :
    Instr.mul 2 0 1 ≠ .rdstat ∧
    (∀ r ∈ reads (.mul 2 0 1), (st 3#64 5#64).getF r = ((st 3#64 5#64).setF 9 7#64).getF r) ∧
    (st 3#64 5#64).issued = ((st 3#64 5#64).setF 9 7#64).issued ∧
    (st 3#64 5#64).getF 9 ≠ ((st 3#64 5#64).setF 9 7#64).getF 9 := by decide

/-- `U` is `f9` alone, and the command is `MUL f2, f0, f1`, and then `LDC f9, #1`, which writes it. -/
theorem witness_UnreadRegistersCannotBeSeen :
    (∀ r : Reg, ¬ r = 9 →
      ({ next 0x12201000#32 (st 3#64 5#64) with f := ((st 3#64 5#64).setF 9 7#64).f } : State).getF r
        = (next 0x12201000#32 (st 3#64 5#64)).getF r) ∧
    (∀ i, decode 0x12201000#32 = some i → ∀ r ∈ reads i, ¬ r = 9) ∧
    (∀ i, decode 0x05900001#32 = some i → (∀ r ∈ reads i, ¬ r = 9) ∧ 9 ∈ writes i) := by
  refine ⟨by decide, ?_, ?_⟩
  · intro i h
    have : i = .mul 2 0 1 := Option.some.inj (h.symm.trans (by decide))
    subst this
    decide
  · intro i h
    have : i = .ldc 9 1#8 := Option.some.inj (h.symm.trans (by decide))
    subst this
    decide

theorem witness_RawMovesAreExact :
    exec (.wrr 3) State.reset = .next (after (.wrr 3) State.reset) := rfl

theorem witness_LoadConstantReadsTheRom : (20#8 : BitVec 8).toNat ≤ 20 ∧ (21#8 : BitVec 8).toNat > 20 := by decide

theorem witness_StatusIsReadAndCleared :
    LatchConsistent (State.reset.setT true) ∧ (State.reset.setT true).fstat.err = false ∧
    (next 0x08000000#32 latched).pending = [.issue ⟨0x08000000#32, 0#64⟩] := by
  exact ⟨⟨fun _ => ⟨rfl, rfl⟩, fun h => absurd h (by decide)⟩, rfl, rfl⟩

theorem witness_SaturatingDivide :
    (st 0#64 0#64).getF 1 = 0#64 ∧ (st 0#64 0xFFFFFFFFFFFFFFFF#64).getF 1 ≠ 0#64 := by decide

theorem witness_ModulusIsTheTruncatedRemainder :
    (st 5#64 0#64).getF 1 = 0#64 ∧ (st constMinValue 0xFFFFFFFFFFFFFFFF#64).getF 1 ≠ 0#64 := by decide

/-- Each precondition at an end of its range. -/
theorem witness_FastCommandsWrapAndAgreeWithTheirTwins :
    FitsS64 (((st constMaxValue 0#64).getF 0).toInt + ((st constMaxValue 0#64).getF 1).toInt) ∧
    FitsS64 (((st constMinValue 0#64).getF 0).toInt - ((st constMinValue 0#64).getF 1).toInt) ∧
    FitsS64 (((st constMinValue constOne).getF 0).toInt * ((st constMinValue constOne).getF 1).toInt / 2 ^ 32) ∧
    (st 0x8000000000000001#64 0#64).getF 0 ≠ constMinValue := by
  refine ⟨?_, ?_, ?_, by decide⟩ <;> unfold FitsS64 <;> decide

theorem witness_FastModulus :
    (st 1#64 0#64).getF 1 = 0#64 ∧
    ((st 0x8000000000000000#64 0xFFFFFFFFFFFFFFFF#64).getF 0 = 0x8000000000000000#64 ∧
      (st 0x8000000000000000#64 0xFFFFFFFFFFFFFFFF#64).getF 1 = 0xFFFFFFFFFFFFFFFF#64) ∧
    ¬ ((st 0x8000000000000001#64 0xFFFFFFFFFFFFFFFF#64).getF 1 = 0#64 ∨
      ((st 0x8000000000000001#64 0xFFFFFFFFFFFFFFFF#64).getF 0 = 0x8000000000000000#64 ∧
        (st 0x8000000000000001#64 0xFFFFFFFFFFFFFFFF#64).getF 1 = 0xFFFFFFFFFFFFFFFF#64)) := by decide

theorem witness_FloorAndCeiling :
    ((st 0x7FFFFFFF00000001#64 0#64).getF 0).toInt > 0x7FFFFFFF00000000 ∧
    ((st 0x7FFFFFFF00000000#64 0#64).getF 0).toInt ≤ 0x7FFFFFFF00000000 := by decide

/-- A tie: 2.5 and its even neighbour 2. -/
theorem witness_RoundHalfToEven :
    (2 * (((st 0x0000000280000000#64 0#64).getF 0).toInt - 2 * 2 ^ 32)).natAbs = 2 ^ 32 := by decide

theorem witness_SquareRootIsTheNearestRoot :
    ((st 0xFFFFFFFFFFFFFFFF#64 0#64).getF 0).toInt < 0 ∧ 0 ≤ ((st 0#64 0#64).getF 0).toInt := by decide

theorem witness_Log2DomainRangeAndPowersOfTwo :
    ((st 0#64 0#64).getF 0).toInt ≤ 0 ∧ 0 < ((st 1#64 0#64).getF 0).toInt ∧
    ((st 1#64 0#64).getF 0).toInt = 2 ^ 0 ∧ ((st 0x4000000000000000#64 0#64).getF 0).toInt = 2 ^ 62 ∧
    (2 ^ 62 ≤ ((st constMaxValue 0#64).getF 0).toInt ∧ ((st constMaxValue 0#64).getF 0).toInt < 2 ^ (62 + 1)) := by decide

theorem witness_NaturalLogScalesLog2 :
    ((st 0#64 0#64).getF 0).toInt ≤ 0 ∧ 0 < ((st 1#64 0#64).getF 0).toInt := by decide

/-- The boundary values of the arms: 31, one unit below -31, -1, 30, 0, one unit below 31, and -31. -/
theorem witness_PowerOfTwoArms :
    ((st 0x0000001F00000000#64 0#64).getF 0).toInt ≥ 31 * 2 ^ 32 ∧
    ((st 0xFFFFFFE0FFFFFFFF#64 0#64).getF 0).toInt < -31 * 2 ^ 32 ∧
    ((st constMinusOne 0#64).getF 0).toInt = -2 ^ 32 ∧
    ((30 : Nat) ≤ 30 ∧ ((st 0x0000001E00000000#64 0#64).getF 0).toInt = (30 : Nat) * 2 ^ 32) ∧
    (0 ≤ ((st 0#64 0#64).getF 0).toInt ∧ ((st 0x0000001EFFFFFFFF#64 0#64).getF 0).toInt < 31 * 2 ^ 32 ∧
      0 ≤ ((st 0x0000001EFFFFFFFF#64 0#64).getF 0).toInt) ∧
    (-31 * 2 ^ 32 ≤ ((st 0xFFFFFFE100000000#64 0#64).getF 0).toInt ∧
      ((st 0xFFFFFFE100000000#64 0#64).getF 0).toInt < 0 ∧
      ((st 0xFFFFFFE100000000#64 0#64).getF 0).toInt ≠ -2 ^ 32) := by decide

theorem witness_PowerSeriesTerminates :
    0 ≤ config.ln2.toInt ∧ config.ln2.toInt < 2 ^ 32 ∧ 0 ≤ (0x00000000FFFFFFFF#64 : Scalar).toInt ∧ (0x00000000FFFFFFFF#64 : Scalar).toInt < 2 ^ 32 := by decide

theorem witness_GeneralPowerArms :
    (st constOne 7#64).getF 0 = constOne ∧ (st 7#64 0#64).getF 1 = 0#64 ∧
    ((st 0#64 0xFFFFFFFFFFFFFFFF#64).getF 0 = 0#64 ∧ ((st 0#64 0xFFFFFFFFFFFFFFFF#64).getF 1).toInt < 0) ∧
    ((st 0#64 1#64).getF 0 = 0#64 ∧ 0 < ((st 0#64 1#64).getF 1).toInt) ∧
    (((st 0xFFFFFFFFFFFFFFFF#64 1#64).getF 0).toInt < 0 ∧ (st 0xFFFFFFFFFFFFFFFF#64 1#64).getF 1 ≠ 0#64) ∧
    (0 < ((st 1#64 1#64).getF 0).toInt ∧ (st 1#64 1#64).getF 0 ≠ constOne ∧ (st 1#64 1#64).getF 1 ≠ 0#64) := by decide

theorem witness_DegreesAndRadians :
    (st 0x00000003243F6A88#64 0#64).getF 0 = 0x00000003243F6A88#64 ∧
    (st 0x000000B400000000#64 0#64).getF 0 = 0x000000B400000000#64 := by decide

/-- `k` = -1; the ends of the three ranges of angles. -/
theorem witness_SineAndCosineExactAtQuarterTurns :
    ((st 0xFFFFFFA600000000#64 0#64).getF 0).toInt = (-1) * (90 * 2 ^ 32) ∧
    (386547056639 : Nat) < 90 * 2 ^ 32 ∧
    (90 * 2 ^ 32 ≤ (386551250943 : Nat) ∧ (386551250943 : Nat) < 90 * 2 ^ 32 + 2 ^ 22) ∧
    (90 * 2 ^ 32 + 2 ^ 22 ≤ (386551250944 : Nat) ∧ (386551250944 : Nat) < 180 * 2 ^ 32) := by decide

/-- A table of largest allowed entries. -/
theorem witness_SineStaysInTheUnitRange :
    ∀ i, i < 92160 → 0 ≤ (({ config with sinTable := fun _ => 0x00000000FFFFFFFF#64 } : Config).sinTable i).toInt ∧
      (({ config with sinTable := fun _ => 0x00000000FFFFFFFF#64 } : Config).sinTable i).toInt ≤ 2 ^ 32 - 1 := by
  intro i _
  show 0 ≤ (0x00000000FFFFFFFF#64 : Scalar).toInt ∧ (0x00000000FFFFFFFF#64 : Scalar).toInt ≤ 2 ^ 32 - 1
  decide

/-- An angle with `flipH` false, one with `flipH` true, and an odd multiple of 90 degrees. -/
theorem witness_TableIndexStaysInTheTable :
    Fix.flipH (90 * 2 ^ 32 - 1) = false ∧ Fix.flipH (90 * 2 ^ 32) = true ∧
    ((-270) * 2 ^ 32 : Int) = (2 * (-2) + 1) * (90 * 2 ^ 32) := by decide

theorem witness_SineTableIsTheRoundedSine : (0 : Nat) < 92160 ∧ 92159 < 92160 := by decide

theorem witness_TangentTableIsTheRoundedTangent : (0 : Nat) < 92160 ∧ 92159 < 92160 := by decide

/-- The four cases of the reduced angle: 90, -90, one unit below 90, one unit below 0. -/
theorem witness_TangentPolesAndTable :
    Fix.tanReduce (90 * 2 ^ 32) = 90 * 2 ^ 32 ∧ Fix.tanReduce (-90 * 2 ^ 32) = -(90 * 2 ^ 32) ∧
    Fix.tanReduce (90 * 2 ^ 32 - 1) = 90 * 2 ^ 32 - 1 ∧ Fix.tanReduce (-1) = -1 := by decide

theorem witness_ArctangentSignAndInversion :
    (st 0#64 0#64).getF 0 = 0#64 ∧
    (0 < ((st constOne 0#64).getF 0).toInt ∧ ((st constOne 0#64).getF 0).toInt ≤ 2 ^ 32) ∧
    constMinValue.toInt < 0 ∧ 0 < (1#64 : Scalar).toInt ∧ 2 ^ 32 < (0x0000000100000001#64 : Scalar).toInt := by decide

theorem witness_ArccosineDomainAndValue :
    ((st 0xFFFFFFFEFFFFFFFF#64 0#64).getF 0).toInt < -2 ^ 32 ∧ 2 ^ 32 < ((st 0x0000000100000001#64 0#64).getF 0).toInt ∧
    (st 0#64 0#64).getF 0 = 0#64 ∧ (st constMinusOne 0#64).getF 0 = constMinusOne ∧ (st constOne 0#64).getF 0 = constOne ∧
    (-2 ^ 32 ≤ ((st constMinusOne 0#64).getF 0).toInt ∧ ((st constMinusOne 0#64).getF 0).toInt ≤ 2 ^ 32 ∧
      (st constMinusOne 0#64).getF 0 ≠ 0#64) := by decide

theorem witness_TwoArgumentArctangent :
    (st 0#64 0#64).getF 1 = 0#64 ∧ (st 0#64 constMinValue).getF 1 ≠ 0#64 := by decide

/-- A zero-width interval and one that touches it. -/
theorem witness_IntervalQueries :
    Ordered ((ist constOne constOne constOne constTwo 0#64).getP 0) ∧
    Ordered ((ist constOne constOne constOne constTwo 0#64).getP 1) := by
  unfold Ordered; decide

theorem witness_IntervalIntersection :
    (Fix.intersection ((ist constZero constOne constOne constTwo 0#64).getP 0)
      ((ist constZero constOne constOne constTwo 0#64).getP 1)).1 = true ∧
    (Fix.intersection ((ist constZero constOne constTwo constThree 0#64).getP 0)
      ((ist constZero constOne constTwo constThree 0#64).getP 1)).1 = false := by decide

theorem witness_IntervalUnionIsTheHull :
    Ordered ((ist constZero constOne constTwo constThree 0#64).getP 0) ∧
    Ordered ((ist constZero constOne constTwo constThree 0#64).getP 1) ∧ config.unionInverted = false ∧
    ({ config with unionInverted := true } : Config).unionInverted = true := by
  unfold Ordered
  refine ⟨by decide, by decide, rfl, rfl⟩

/-- Two intervals one unit apart, and two that touch. -/
theorem witness_MinimumTranslation :
    ¬ (((ist constZero constOne 0x100000001#64 constTwo 0#64).getP 0).lo.toInt ≤
        ((ist constZero constOne 0x100000001#64 constTwo 0#64).getP 1).hi.toInt ∧
      ((ist constZero constOne 0x100000001#64 constTwo 0#64).getP 1).lo.toInt ≤
        ((ist constZero constOne 0x100000001#64 constTwo 0#64).getP 0).hi.toInt) ∧
    (((ist constZero constOne constOne constTwo 0#64).getP 0).lo.toInt ≤
        ((ist constZero constOne constOne constTwo 0#64).getP 1).hi.toInt ∧
      ((ist constZero constOne constOne constTwo 0#64).getP 1).lo.toInt ≤
        ((ist constZero constOne constOne constTwo 0#64).getP 0).hi.toInt) := by decide

theorem witness_UncheckedMutatorsTrustTheOrder :
    Ordered ((ist 0x7FFFFFFEFFFFFFFF#64 constMaxValue 0#64 0#64 constTwo).getP 0) := by
  unfold Ordered; decide

end Sys2Proof.Tests
end

section
/-! What a command may change (rules R11, R21, R25, R26, R244), said once for
every setting of the parameters, and obligation O17 from it. -/

namespace Sys2Proof.Machine

/-! ## What a command may change before it answers -/

/-- `u` is `s` but for the registers `i` names as destination, `T` if `i` is one of rule R25's commands, and the latch if `i`
is `CLRERR`; nothing is answered yet. -/
structure ChangesOnly (i : Instr) (s u : State) : Prop where
  getF_eq : ∀ r, r ∉ writes i → u.getF r = s.getF r
  truth_eq : writesTruth i = false → u.fstat.t = s.fstat.t
  latch_eq : i ≠ .clrerr → u.fstat.err = s.fstat.err ∧ u.fstat.cause = s.fstat.cause ∧ u.fcmd = s.fcmd
  issued_eq : u.issued = s.issued
  pending_eq : u.pending = s.pending
  freeNext_eq : u.freeNext = s.freeNext
  responses_eq : u.responses = s.responses

namespace ChangesOnly

variable {i : Instr} {s u : State}

theorem refl (i : Instr) (s : State) : ChangesOnly i s s :=
  ⟨fun _ _ => rfl, fun _ => rfl, fun _ => ⟨rfl, rfl, rfl⟩, rfl, rfl, rfl, rfl⟩

theorem setF {rd : Reg} (h : ChangesOnly i s u) (hrd : rd ∈ writes i) (v : Scalar) : ChangesOnly i s (u.setF rd v) where
  __ := h
  getF_eq r hr := by
    have hne : r ≠ rd := fun e => hr (e ▸ hrd)
    rw [State.getF_setF_of_ne _ _ hne, h.getF_eq r hr]

theorem setP {id : Pair} (h : ChangesOnly i s u) (hl : lowerReg id ∈ writes i) (hu : upperReg id ∈ writes i) (v : Interval) :
    ChangesOnly i s (u.setP id v) := (h.setF hl v.lo).setF hu v.hi

theorem setT (h : ChangesOnly i s u) (hT : writesTruth i = true) (b : Bool) : ChangesOnly i s (u.setT b) where
  __ := h
  truth_eq hF := absurd (hT.symm.trans hF) Bool.true_eq_false.mp

theorem clearLatch (h : ChangesOnly .clrerr s u) : ChangesOnly .clrerr s u.clearLatch where
  __ := h
  latch_eq hne := absurd rfl hne

end ChangesOnly

/-! ## How a command ends -/

/-- The outcome is `OK` after permitted changes only, or a raise. -/
def EndsWithin (i : Instr) (s : State) (o : Host.Outcome State Fault Refusal) : Prop :=
  (∃ u d, ChangesOnly i s u ∧ o = .next (u.respond respOk d)) ∨ ∃ c, o = .next (s.raise c)

section Endings

variable {i : Instr} {s : State}

theorem endsWithin_complete {u : State} (h : ChangesOnly i s u) : EndsWithin i s (complete u) := .inl ⟨u, _, h, rfl⟩

theorem endsWithin_completeWith (d : BitVec 64) : EndsWithin i s (completeWith d s) := .inl ⟨s, d, .refl i s, rfl⟩

theorem endsWithin_setF {rd : Reg} {v : Scalar} (h : rd ∈ writes i) : EndsWithin i s (complete (s.setF rd v)) :=
  endsWithin_complete ((ChangesOnly.refl i s).setF h v)

theorem endsWithin_setP {id : Pair} {v : Interval} (h : writes i = [lowerReg id, upperReg id]) :
    EndsWithin i s (complete (s.setP id v)) :=
  endsWithin_complete ((ChangesOnly.refl i s).setP (by simp [h]) (by simp [h]) v)

theorem endsWithin_finishTruth {b : Bool} (h : writesTruth i = true) : EndsWithin i s (finishTruth b s) :=
  endsWithin_complete ((ChangesOnly.refl i s).setT h b)

theorem endsWithin_finishScalar {rd : Reg} {r : Except Cause Scalar} (h : rd ∈ writes i) :
    EndsWithin i s (finishScalar rd r s) := by
  cases r with
  | ok v => exact endsWithin_setF h
  | error c => exact .inr ⟨c, rfl⟩

end Endings

theorem endsWithin_execLdcWith (p : Config) (rd : Reg) (k : BitVec 8) (s : State) :
    EndsWithin (.ldc rd k) s (execLdcWith p rd k s) := by
  unfold execLdcWith
  cases constRead p k with
  | some v => exact endsWithin_setF (List.mem_singleton_self rd)
  | none => exact .inr ⟨_, rfl⟩

/-- Every command, for every setting of the parameters: one case for each way a command ends. -/
theorem execWith_endsWithin (p : Config) (i : Instr) (s : State) : EndsWithin i s (execWith p i s) := by
  cases i with
  | ldc rd k => exact endsWithin_execLdcWith p rd k s
  | clrerr => exact endsWithin_complete (ChangesOnly.refl _ s).clearLatch
  | rdr | rdi | rdstat => exact endsWithin_completeWith _
  | hasfrac | cmpeq | cmpne | cmplt | cmpgt | cmple | cmpge | iovlv | iovl | ieq => exact endsWithin_finishTruth rfl
  | div | mod | fmod | sqrt | log2 | ln | pow2 | pow | atan | acos | atan2 | todeg =>
    exact endsWithin_finishScalar (List.mem_singleton_self _)
  | torad rd ra =>
    -- The result is named because its divisor is a constant, and Lean would compute the division away.
    exact endsWithin_finishScalar (r := Fix.toRad p (s.getF ra)) (List.mem_singleton_self rd)
  | wrr | wri | mov | add | sub | mul | neg | abs | sign | fadd | fsub | fmul | fabs | floor | ceil | round | frac
  | sin | cos | tan | imtv => exact endsWithin_setF (List.mem_singleton_self _)
  | iint id ia ib =>
    exact endsWithin_complete (((ChangesOnly.refl _ s).setP (by simp [writes]) (by simp [writes]) _).setT rfl _)
  | icreate | icreateu | iunion | isetlo | isetlou | isethi | isethiu | iaddlo | iaddlou | iaddhi | iaddhiu
  | itrans | itransu => exact endsWithin_setP rfl

/-- What a command can do (rule R71 step 3): it answers `OK` after permitted changes only, or it raises. -/
theorem exec_next {i : Instr} {s t : State} (h : exec i s = .next t) :
    (∃ u d, ChangesOnly i s u ∧ t = u.respond respOk d) ∨ ∃ c, t = s.raise c := by
  have hends : EndsWithin i s (exec i s) := execWith_config ▸ execWith_endsWithin config i s
  simpa only [EndsWithin, h, Host.Outcome.next.injEq] using hends

/-! ## The frame of a command -/

/-- No cause has the code of `OK` (rules R70, R240). -/
theorem Cause.code_ne_respOk (c : Cause) : c.code ≠ respOk := by
  cases c <;> decide

/-- Settles O17: a completed command changed only what `ChangesOnly` permits, and a raise only the latch. -/
theorem commandFrame : Obligations.CommandFrame := by
  intro i s t ht
  obtain ⟨u, d, hu, rfl⟩ | ⟨c, rfl⟩ := exec_next ht
  · exact ⟨hu.getF_eq, hu.truth_eq, hu.issued_eq, hu.pending_eq, hu.freeNext_eq, ⟨respOk, d⟩,
      by rw [State.respond_responses, hu.responses_eq], fun hne => absurd rfl hne, fun _ => hu.latch_eq⟩
  · exact ⟨fun _ _ => rfl, fun _ => rfl, rfl, rfl, rfl, ⟨c.code, 0#64⟩, rfl, fun _ => ⟨c, raisedTo_raise s c⟩,
      fun hok => absurd hok c.code_ne_respOk⟩

end Sys2Proof.Machine
end

section
/-! How a command ends, as data: what it writes and answers is fixed by the sources its format names (rules R71, R113). -/

namespace Sys2Proof.Machine

/-! ## What a command does to the state, once its sources are read -/

/-- The ways a command ends (rules R11, R244, R247): it writes registers, sets `T` or keeps it, and answers `OK` with read
data; or it clears the latch; or it raises. -/
inductive Ending where
  | completed (regs : List (Reg × Scalar)) (truth : Option Bool) (rdata : BitVec 64)
  | cleared
  | raised (c : Cause)

/-- The register writes of an ending, in order. -/
def writeRegs (f : Vector Scalar 16) (regs : List (Reg × Scalar)) : Vector Scalar 16 :=
  regs.foldl (fun f w => f.set w.1 w.2) f

/-- The state after the ending. -/
def Ending.after : Ending → State → State
  | .completed regs truth rdata, s =>
    ({ s with f := writeRegs s.f regs, fstat := { s.fstat with t := truth.getD s.fstat.t } } : State).respond respOk rdata
  | .cleared, s => s.clearLatch.respond respOk 0#64
  | .raised c, s => s.raise c

/-- The ending writes the registers the format of `i` names and sets `T` as rule R25 lists; only `CLRERR` clears the latch,
and none of rule R25's commands raises. -/
def Ending.Permitted (i : Instr) : Ending → Prop
  | .completed regs truth _ => regs.map Prod.fst = writes i ∧ truth.isSome = writesTruth i
  | .cleared => i = .clrerr
  | .raised _ => writesTruth i = false

/-! ## The sources of a command -/

/-- `s'` gives `i` the same sources as `s`: the registers its format names, the command at the port, and for `RDSTAT` the
status word. -/
structure SameSources (i : Instr) (s s' : State) : Prop where
  getF_eq : ∀ r ∈ reads i, s'.getF r = s.getF r
  issued_eq : s'.issued = s.issued
  status_eq : i = .rdstat → s'.statusWord = s.statusWord

theorem SameSources.refl (i : Instr) (s : State) : SameSources i s s := ⟨fun _ _ => rfl, rfl, fun _ => rfl⟩

/-- From `s` and from `s'` the command has one and the same ending. -/
def SameEnding (i : Instr) (s s' : State) (o o' : Host.Outcome State Fault Refusal) : Prop :=
  ∃ e : Ending, e.Permitted i ∧ o = .next (e.after s) ∧ o' = .next (e.after s')

section Endings

variable {i : Instr} {s s' : State}

theorem sameEnding_completeWith {d d' : BitVec 64} (hw : writes i = []) (hT : writesTruth i = false) (hd : d' = d) :
    SameEnding i s s' (completeWith d s) (completeWith d' s') := by
  subst hd
  exact ⟨.completed [] none d', ⟨hw.symm, hT.symm⟩, rfl, rfl⟩

theorem sameEnding_setF {rd : Reg} {v v' : Scalar} (hw : writes i = [rd]) (hT : writesTruth i = false) (hv : v' = v) :
    SameEnding i s s' (complete (s.setF rd v)) (complete (s'.setF rd v')) := by
  subst hv
  exact ⟨.completed [(rd, v')] none 0#64, ⟨hw.symm, hT.symm⟩, rfl, rfl⟩

theorem sameEnding_raise (c : Cause) (hT : writesTruth i = false) :
    SameEnding i s s' (.next (s.raise c)) (.next (s'.raise c)) := ⟨.raised c, hT, rfl, rfl⟩

theorem sameEnding_finishScalar {rd : Reg} {r r' : Except Cause Scalar} (hw : writes i = [rd]) (hT : writesTruth i = false)
    (hr : r' = r) : SameEnding i s s' (finishScalar rd r s) (finishScalar rd r' s') := by
  subst hr
  cases r' with
  | ok v => exact sameEnding_setF hw hT rfl
  | error c => exact sameEnding_raise c hT

theorem sameEnding_setP {id : Pair} {v v' : Interval} (hw : writes i = [lowerReg id, upperReg id])
    (hT : writesTruth i = false) (hv : v' = v) :
    SameEnding i s s' (complete (s.setP id v)) (complete (s'.setP id v')) := by
  subst hv
  exact ⟨.completed [(lowerReg id, v'.lo), (upperReg id, v'.hi)] none 0#64, ⟨hw.symm, hT.symm⟩, rfl, rfl⟩

theorem sameEnding_finishTruth {b b' : Bool} (hw : writes i = []) (hT : writesTruth i = true) (hb : b' = b) :
    SameEnding i s s' (finishTruth b s) (finishTruth b' s') := by
  subst hb
  exact ⟨.completed [] (some b') 0#64, ⟨hw.symm, hT.symm⟩, rfl, rfl⟩

theorem sameEnding_setP_setT {id : Pair} {v v' : Bool × Interval} (hw : writes i = [lowerReg id, upperReg id])
    (hT : writesTruth i = true) (hv : v' = v) :
    SameEnding i s s' (complete ((s.setP id v.2).setT v.1)) (complete ((s'.setP id v'.2).setT v'.1)) := by
  subst hv
  exact ⟨.completed [(lowerReg id, v'.2.lo), (upperReg id, v'.2.hi)] (some v'.1) 0#64, ⟨hw.symm, hT.symm⟩, rfl, rfl⟩

end Endings

theorem sameEnding_execLdcWith (p : Config) (rd : Reg) (k : BitVec 8) (s s' : State) :
    SameEnding (.ldc rd k) s s' (execLdcWith p rd k s) (execLdcWith p rd k s') := by
  unfold execLdcWith
  cases constRead p k with
  | some v => exact sameEnding_setF rfl rfl rfl
  | none => exact sameEnding_raise _ rfl

/-- What a command writes and answers is a function of its sources, for every setting of the parameters: one case for each
way a command ends. -/
theorem execWith_sameEnding (p : Config) {i : Instr} {s s' : State} (h : SameSources i s s') :
    SameEnding i s s' (execWith p i s) (execWith p i s') := by
  obtain ⟨hF, hissued, hstatus⟩ := h
  cases i with simp [reads] at hF
  | ldc rd k => exact sameEnding_execLdcWith p rd k s s'
  | clrerr => exact ⟨.cleared, rfl, rfl, rfl⟩
  | rdstat => exact sameEnding_completeWith rfl rfl (hstatus rfl)
  | rdr | rdi => exact sameEnding_completeWith rfl rfl (by simp [hF])
  | wrr | wri => exact sameEnding_setF rfl rfl (by simp [State.wdataRaw, State.wdataInt, hissued])
  | hasfrac | cmpeq | cmpne | cmplt | cmpgt | cmple | cmpge | iovlv | iovl | ieq =>
    exact sameEnding_finishTruth rfl rfl (by simp [hF, State.getP])
  | div | mod | fmod | sqrt | log2 | ln | pow2 | pow | atan | acos | atan2 | todeg =>
    exact sameEnding_finishScalar rfl rfl (by simp [hF])
  | torad rd ra =>
    -- The results are named because their divisor is a constant, and Lean would compute the division away.
    exact sameEnding_finishScalar (r := Fix.toRad p (s.getF ra)) (r' := Fix.toRad p (s'.getF ra)) rfl rfl
      (by simp [hF])
  | mov | add | sub | mul | neg | abs | sign | fadd | fsub | fmul | fabs | floor | ceil | round | frac
  | sin | cos | tan | imtv => exact sameEnding_setF rfl rfl (by simp [hF, State.getP])
  | iint => exact sameEnding_setP_setT rfl rfl (by simp [hF, State.getP])
  | icreate | icreateu | iunion | isetlo | isetlou | isethi | isethiu | iaddlo | iaddlou | iaddhi | iaddhiu
  | itrans | itransu => exact sameEnding_setP rfl rfl (by simp [hF, State.getP])

theorem exec_sameEnding {i : Instr} {s s' : State} (h : SameSources i s s') :
    SameEnding i s s' (exec i s) (exec i s') := execWith_config ▸ execWith_sameEnding config h

end Sys2Proof.Machine
end

section
/-! Which causes the functions of rules R103 to R179 can raise (rule R241). -/

namespace Sys2Proof.Machine

/-! ## Bounds on narrowed results -/

theorem ne_zero_of_toInt_pos {a : Scalar} (h : 0 < a.toInt) : a ≠ 0#64 := by
  rintro rfl
  simp at h

theorem le_toInt_sat64 {m z : Int} (h : m ≤ z) (hm : m ≤ 2 ^ 63 - 1) : m ≤ (sat64 z).toInt := by
  rw [toInt_sat64]
  split_ifs <;> omega

/-- A raw value from 0 to `One`. -/
def InUnit (a : Scalar) : Prop := 0 ≤ a.toInt ∧ a.toInt ≤ 2 ^ 32

namespace Fix

theorem toInt_add_pos {a b : Scalar} (ha : 0 < a.toInt) (hb : 0 ≤ b.toInt) : 0 < (add a b).toInt :=
  le_toInt_sat64 (m := 1) (by omega) (by norm_num)

theorem toInt_mul_self_nonneg (a : Scalar) : 0 ≤ (mul a a).toInt :=
  le_toInt_sat64 (Int.ediv_nonneg (mul_self_nonneg a.toInt) (by norm_num)) (by norm_num)

/-- A positive scalar times one that is at least `One` is positive. -/
theorem toInt_mul_pos {a b : Scalar} (ha : 0 < a.toInt) (hb : 2 ^ 32 ≤ b.toInt) : 0 < (mul a b).toInt := by
  have hprod : 2 ^ 32 ≤ a.toInt * b.toInt := by nlinarith
  exact le_toInt_sat64 (m := 1) ((Int.le_ediv_iff_mul_le (by norm_num)).2 (by omega)) (by norm_num)

theorem fmul_inUnit {a b : Scalar} (ha : InUnit a) (hb : InUnit b) : InUnit (fmul a b) := by
  obtain ⟨ha0, ha1⟩ := ha
  obtain ⟨hb0, hb1⟩ := hb
  have h0 : 0 ≤ product a b := Int.ediv_nonneg (mul_nonneg ha0 hb0) (by norm_num)
  have h1 : product a b ≤ 2 ^ 32 := by
    refine Int.ediv_le_of_le_mul (by norm_num) ?_
    nlinarith
  rw [InUnit, fmul, toInt_wrap64 (by omega) (by omega)]
  exact ⟨h0, h1⟩

/-- A scalar from 0 to `One` over one that is at least `One` is from 0 to `One`. -/
theorem quotient_inUnit {a b : Scalar} (ha : InUnit a) (hb : 2 ^ 32 ≤ b.toInt) : InUnit (sat64 (quotient a b)) := by
  obtain ⟨ha0, ha1⟩ := ha
  have hq : a.toInt.natAbs * 2 ^ 33 / b.toInt.natAbs ≤ 2 ^ 33 := by
    refine Nat.div_le_of_le_mul (Nat.mul_le_mul_right _ ?_)
    omega
  have hsign : (decide (a.toInt < 0) != decide (b.toInt < 0)) = false := by
    simp [not_lt.2 ha0, not_lt.2 (show (0 : Int) ≤ b.toInt by omega)]
  have hz : quotient a b = ((a.toInt.natAbs * 2 ^ 33 / b.toInt.natAbs + 1) / 2 : Nat) := by
    simp only [quotient, hsign, Bool.false_eq_true, if_false]
  rw [hz]
  generalize a.toInt.natAbs * 2 ^ 33 / b.toInt.natAbs = q at hq ⊢
  rw [InUnit, toInt_sat64_of_fits] <;> omega

/-! ## What a function raises -/

/-- The function raises no cause but those of `cs`. -/
def RaisesOnly {α : Type} (cs : List Cause) (r : Except Cause α) : Prop := ∀ c, r = .error c → c ∈ cs

section RaisesOnly

variable {α β : Type} {cs : List Cause}

theorem raisesOnly_ok (v : α) : RaisesOnly cs (.ok v) := nofun

theorem raisesOnly_error {c : Cause} (h : c ∈ cs) : RaisesOnly cs (.error c : Except Cause α) := by
  rintro _ ⟨⟩
  exact h

theorem RaisesOnly.bind {x : Except Cause α} {f : α → Except Cause β} (hx : RaisesOnly cs x)
    (hf : ∀ v, RaisesOnly cs (f v)) : RaisesOnly cs (x >>= f) := by
  cases x with
  | ok v => exact hf v
  | error c => exact raisesOnly_error (hx c rfl)

theorem raisesOnly_div_of_ne {a b : Scalar} (hb : b ≠ 0#64) : RaisesOnly cs (div a b) := by
  rw [div_of_ne a hb]
  exact raisesOnly_ok _

theorem raisesOnly_div (a b : Scalar) : RaisesOnly [.divisionByZero] (div a b) := by
  unfold div
  split_ifs
  · exact raisesOnly_error (by simp)
  · exact raisesOnly_ok _

theorem raisesOnly_mod (a b : Scalar) : RaisesOnly [.divisionByZero] (mod a b) := by
  unfold mod
  split_ifs
  · exact raisesOnly_error (by simp)
  · exact raisesOnly_ok _

theorem raisesOnly_fmod (a b : Scalar) : RaisesOnly [.fastFault] (fmod a b) := by
  unfold fmod
  split_ifs
  · exact raisesOnly_error (by simp)
  · exact raisesOnly_error (by simp)
  · exact raisesOnly_ok _

theorem raisesOnly_sqrt (h : .domainError ∈ cs) (a : Scalar) : RaisesOnly cs (sqrt a) := by
  unfold sqrt
  split_ifs
  · exact raisesOnly_error h
  · exact raisesOnly_ok _

theorem raisesOnly_log2 (h : .domainError ∈ cs) (a : Scalar) : RaisesOnly cs (log2 a) := by
  unfold log2
  split_ifs
  · exact raisesOnly_error h
  · exact raisesOnly_ok _

theorem raisesOnly_ln (p : Config) (a : Scalar) : RaisesOnly [.domainError] (ln p a) :=
  (raisesOnly_log2 (by simp) a).bind fun _ => raisesOnly_ok _

/-! ### Powers -/

/-- The divisors of the series (rule R153) are `One` times a small number. -/
theorem one_le_wrap64_mul {i : Nat} (h0 : 1 ≤ i) (h1 : i < 2 ^ 31) : 2 ^ 32 ≤ (wrap64 (i * 2 ^ 32)).toInt := by
  rw [toInt_wrap64] <;> omega

/-- The series never divides by zero, and its sum stays positive. -/
theorem pow2Series_pos {p : Config} (hp : InUnit p.ln2) {f : Scalar} (hf : InUnit f) (fuel : Nat) :
    ∀ (term result : Scalar) (i : Nat), InUnit term → 0 < result.toInt → 1 ≤ i → i + fuel < 2 ^ 31 →
      ∃ v, pow2Series p f fuel term result i = .ok v ∧ 0 < v.toInt := by
  induction fuel with
  | zero => exact fun _ result _ _ hr _ _ => ⟨result, rfl, hr⟩
  | succ fuel ih =>
    intro term result i hterm hr hi hbound
    by_cases hzero : term = 0#64
    · exact ⟨result, by simp [pow2Series, hzero], hr⟩
    · have hdivisor := one_le_wrap64_mul hi (by omega)
      have hnext := quotient_inUnit (fmul_inUnit (fmul_inUnit hf hterm) hp) hdivisor
      obtain ⟨v, hv, hpos⟩ := ih _ _ (i + 1) hnext (toInt_add_pos hr hnext.1) (by omega) (by omega)
      refine ⟨v, ?_, hpos⟩
      rw [pow2Series, if_neg hzero, div_of_ne _ (ne_zero_of_toInt_pos (by omega))]
      exact hv

theorem inUnit_low32 (x : Scalar) : InUnit (x &&& 0x00000000FFFFFFFF#64) := by
  have hle : (x &&& 0x00000000FFFFFFFF#64).toNat ≤ 0xFFFFFFFF := by
    rw [BitVec.toNat_and]
    exact Nat.and_le_right
  rw [InUnit, BitVec.toInt_eq_toNat_of_lt (by omega)]
  omega

theorem pow2NonNeg_pos {p : Config} (hp : InUnit p.ln2) (x : Scalar) :
    ∃ v, pow2NonNeg p x = .ok v ∧ 0 < v.toInt := by
  unfold pow2NonNeg
  split_ifs
  · exact ⟨_, rfl, by decide⟩
  · exact ⟨_, rfl, by decide⟩
  · exact ⟨_, rfl, by decide⟩
  · obtain ⟨r, hr, hpos⟩ := pow2Series_pos hp (inUnit_low32 x) pow2Fuel constOne constOne 1 (by unfold InUnit; decide)
      (by decide) le_rfl (by decide)
    rw [hr]
    exact ⟨_, rfl, le_toInt_sat64 (m := 1) (mul_pos hpos (by positivity)) (by norm_num)⟩

/-- `POW2` never raises (rules R153, R241) while `Ln2` is from 0 to `One`. -/
theorem raisesOnly_pow2 {p : Config} (hp : InUnit p.ln2) (x : Scalar) : RaisesOnly cs (pow2 p x) := by
  unfold pow2
  split_ifs
  · exact raisesOnly_ok _
  · exact raisesOnly_ok _
  · exact raisesOnly_ok _
  · exact raisesOnly_ok _
  · exact raisesOnly_ok _
  · obtain ⟨y, hy, hpos⟩ := pow2NonNeg_pos hp (neg x)
    rw [hy]
    exact raisesOnly_div_of_ne (ne_zero_of_toInt_pos hpos)
  · obtain ⟨y, hy, -⟩ := pow2NonNeg_pos hp x
    rw [hy]
    exact raisesOnly_ok _

theorem raisesOnly_pow {p : Config} (hp : InUnit p.ln2) (b e : Scalar) :
    RaisesOnly [.divisionByZero, .domainError] (pow p b e) := by
  unfold pow
  split_ifs
  · exact raisesOnly_ok _
  · exact raisesOnly_ok _
  · exact raisesOnly_error (by simp)
  · exact raisesOnly_ok _
  · exact raisesOnly_error (by simp)
  · exact (raisesOnly_log2 (by simp) b).bind fun l => raisesOnly_pow2 hp _

/-! ### Angles -/

/-- The divisors of the series (rule R177) grow from a positive one. -/
theorem raisesOnly_atanSeries (zSq2 : Scalar) {zSq12 : Scalar} (hstep : 0 < zSq12.toInt) (n : Nat) :
    ∀ term s dividend divisor : Scalar, 0 < divisor.toInt →
      RaisesOnly cs (atanSeries zSq2 zSq12 n term s dividend divisor) := by
  induction n with
  | zero => exact fun _ s _ _ _ => raisesOnly_ok s
  | succ n ih =>
    intro term s dividend divisor hdivisor
    refine (raisesOnly_div_of_ne (ne_zero_of_toInt_pos hdivisor)).bind fun q => ?_
    dsimp only
    split_ifs
    · exact raisesOnly_ok _
    · exact ih _ _ _ _ (toInt_add_pos hdivisor hstep.le)

/-- `z² + 1`, the divisor of rule R177, is positive. -/
theorem add_mul_self_one_pos (z : Scalar) : 0 < (add (mul z z) constOne).toInt :=
  le_toInt_sat64 (m := 0 + 1) (add_le_add (toInt_mul_self_nonneg z) (show 1 ≤ constOne.toInt by decide)) (by norm_num)

theorem raisesOnly_atanUnit (p : Config) (z : Scalar) : RaisesOnly cs (atanUnit p z) :=
  have hpos := add_mul_self_one_pos z
  (raisesOnly_atanSeries _ (toInt_mul_pos hpos (by decide)) _ _ _ _ _ (toInt_mul_pos hpos (by decide))).bind fun _ =>
    raisesOnly_div_of_ne (ne_zero_of_toInt_pos hpos)

theorem raisesOnly_atanPos (p : Config) (z : Scalar) : RaisesOnly cs (atanPos p z) := by
  unfold atanPos
  split_ifs with h
  · have hz : z ≠ 0#64 := ne_zero_of_toInt_pos (lt_trans (by decide) h)
    exact (raisesOnly_div_of_ne hz).bind fun _ => (raisesOnly_atanUnit p _).bind fun _ => raisesOnly_ok _
  · exact raisesOnly_atanUnit p z

theorem raisesOnly_atan (p : Config) (z : Scalar) : RaisesOnly cs (atan p z) := by
  unfold atan
  split_ifs
  · exact raisesOnly_ok _
  · exact (raisesOnly_atanPos p _).bind fun _ => raisesOnly_ok _
  · exact raisesOnly_atanPos p z

theorem raisesOnly_acos (p : Config) (x : Scalar) : RaisesOnly [.domainError] (acos p x) := by
  unfold acos
  split
  · exact raisesOnly_error (by simp)
  · split
    · exact raisesOnly_ok _
    · next hx =>
      exact (raisesOnly_sqrt (by simp) _).bind fun _ => (raisesOnly_div_of_ne hx).bind fun _ =>
        (raisesOnly_atan p _).bind fun _ => raisesOnly_ok _

theorem raisesOnly_atan2 (p : Config) (y x : Scalar) : RaisesOnly cs (atan2 p y x) := by
  by_cases hx : x = 0#64
  · rw [atan2, if_pos hx]
    exact raisesOnly_ok _
  · rw [atan2, if_neg hx]
    exact (raisesOnly_div_of_ne hx).bind fun _ => (raisesOnly_atan p _).bind fun _ => raisesOnly_ok _

theorem raisesOnly_toDeg {p : Config} (hp : p.pi ≠ 0#64) (r : Scalar) : RaisesOnly cs (toDeg p r) := raisesOnly_div_of_ne hp

theorem raisesOnly_toRad (p : Config) (d : Scalar) : RaisesOnly cs (toRad p d) := raisesOnly_div_of_ne (by decide)

end RaisesOnly

end Fix

end Sys2Proof.Machine
end

section
/-! A raise is one the command's row lists (rule R241); then obligations O9, O10, O12, O18, O20 and O24. -/

namespace Sys2Proof.Machine

/-! ## A raise is one of rule R241's table -/

/-- Whatever cause the outcome raises is one the row of `i` lists. -/
def RaisesListed (i : Instr) (s : State) (o : Host.Outcome State Fault Refusal) : Prop :=
  ∀ c, o = .next (s.raise c) → c ∈ mayRaise i

section RaisesListed

variable {i : Instr} {s : State}

/-- An answer `OK` is no raise. -/
theorem respond_respOk_ne_raise (u s : State) (d : BitVec 64) (c : Cause) : u.respond respOk d ≠ s.raise c := by
  intro h
  have hcode : respOk = c.code := congrArg Response.resp (List.cons.inj (congrArg State.responses h)).1
  exact c.code_ne_respOk hcode.symm

theorem State.raise_injective (s : State) : Function.Injective s.raise := by
  intro c c' h
  have hcode : c.code = c'.code := congrArg (fun t => t.fstat.cause) h
  revert hcode
  cases c <;> cases c' <;> decide

theorem raisesListed_completeWith (d : BitVec 64) (u : State) : RaisesListed i s (completeWith d u) :=
  fun c h => absurd (Host.Outcome.next.inj h) (respond_respOk_ne_raise u s d c)

theorem raisesListed_complete (u : State) : RaisesListed i s (complete u) := raisesListed_completeWith 0#64 u

theorem raisesListed_finishScalar {rd : Reg} {r : Except Cause Scalar} (h : Fix.RaisesOnly (mayRaise i) r) :
    RaisesListed i s (finishScalar rd r s) := by
  cases r with
  | ok v => exact raisesListed_complete _
  | error c =>
    intro c' hc
    rw [← s.raise_injective (Host.Outcome.next.inj hc)]
    exact h c rfl

end RaisesListed

/-- An index of the constant ROM reads a word. -/
theorem raisesListed_execLdc {rd : Reg} {k : BitVec 8} (h : (Instr.ldc rd k).WellFormed) (s : State) :
    RaisesListed (.ldc rd k) s (execLdc rd k s) := by
  have hk : k.toNat < (constRom config).length := of_decide_eq_true h
  rw [execLdc, execLdcWith, constRead, List.getElem?_eq_getElem hk]
  exact raisesListed_complete _

/-- Rule R241, the parameters at their defaults. -/
theorem exec_raisesListed {i : Instr} (h : i.WellFormed) (s : State) : RaisesListed i s (exec i s) := by
  have hln2 : InUnit config.ln2 := by unfold InUnit; decide
  cases i with
  | ldc rd k => exact raisesListed_execLdc h s
  | div => exact raisesListed_finishScalar (Fix.raisesOnly_div _ _)
  | mod => exact raisesListed_finishScalar (Fix.raisesOnly_mod _ _)
  | fmod => exact raisesListed_finishScalar (Fix.raisesOnly_fmod _ _)
  | sqrt => exact raisesListed_finishScalar (Fix.raisesOnly_sqrt (by simp [mayRaise]) _)
  | log2 => exact raisesListed_finishScalar (Fix.raisesOnly_log2 (by simp [mayRaise]) _)
  | ln => exact raisesListed_finishScalar (Fix.raisesOnly_ln _ _)
  | pow2 => exact raisesListed_finishScalar (Fix.raisesOnly_pow2 hln2 _)
  | pow => exact raisesListed_finishScalar (Fix.raisesOnly_pow hln2 _ _)
  | atan => exact raisesListed_finishScalar (Fix.raisesOnly_atan _ _)
  | acos => exact raisesListed_finishScalar (Fix.raisesOnly_acos _ _)
  | atan2 => exact raisesListed_finishScalar (Fix.raisesOnly_atan2 _ _ _)
  | todeg => exact raisesListed_finishScalar (Fix.raisesOnly_toDeg (p := config) (by decide) _)
  | torad => exact raisesListed_finishScalar (Fix.raisesOnly_toRad config _)
  | rdr | rdi | rdstat => exact raisesListed_completeWith _ _
  | wrr | wri | mov | clrerr | add | sub | mul | neg | abs | sign | fadd | fsub | fmul | fabs | floor | ceil | round | frac
  | hasfrac | cmpeq | cmpne | cmplt | cmpgt | cmple | cmpge | sin | cos | tan | icreate | icreateu | iovlv | iovl | iint
  | iunion | imtv | ieq | isetlo | isetlou | isethi | isethiu | iaddlo | iaddlou | iaddhi | iaddhiu | itrans | itransu =>
    exact raisesListed_complete _

/-! ## The decoder gives well-formed commands -/

/-- Rule R65: the further condition on `LDC`'s index is the decoder's. -/
theorem decode_wellFormed {w : CmdWord} {i : Instr} (h : decode w = some i) : i.WellFormed := by
  unfold decode at h
  split at h
  case h_5 =>
    simp only [decodeDC, Option.ite_none_right_eq_some, Bool.and_eq_true] at h
    obtain ⟨⟨-, himm⟩, h⟩ := h
    cases h
    exact himm
  case h_64 => cases h
  all_goals
    simp only [decodeZ, decodeD, decodeA, decodeDA, decodeDAB, decodeAB, decodePSS, decodeXPS, decodeXPP, decodePPP,
      decodeSPP, decodePPS, Option.ite_none_right_eq_some] at h
    obtain ⟨-, h⟩ := h
    cases h
    rfl

/-! ## The invariant of a run -/

theorem latchConsistent_cleared {s : State} (he : s.fstat.err = false) (hc : s.fstat.cause = 0#4) (hw : s.fcmd = 0#32) :
    LatchConsistent s := ⟨fun _ => ⟨hc, hw⟩, fun h => absurd (he.symm.trans h) Bool.false_ne_true⟩

theorem latchConsistent_raise {s : State} {c : Cause} (h : latchedBy c.code s.issued.cmd) : LatchConsistent (s.raise c) :=
  ⟨fun he => absurd he Bool.true_eq_false.mp, fun _ => h⟩

/-- A new response keeps the responses legal when it is legal itself. -/
theorem ResponsesLegal.cons {s t : State} {resp : BitVec 4} {d : BitVec 64} (h : ResponsesLegal s)
    (ht : t.responses = ⟨resp, d⟩ :: s.responses) (hcode : resp ∈ producedCodes) (hdata : resp ≠ respOk → d = 0#64) :
    ResponsesLegal t := by
  intro r hr
  rw [ht, List.mem_cons] at hr
  obtain rfl | hr := hr
  · exact ⟨hcode, hdata⟩
  · exact h r hr

theorem Cause.code_mem_producedCodes (c : Cause) : c.code ∈ producedCodes := by
  cases c <;> decide

theorem inv_raise {s : State} {c : Cause} (hr : ResponsesLegal s) (h : latchedBy c.code s.issued.cmd) : Inv (s.raise c) :=
  ⟨latchConsistent_raise h, hr.cons rfl c.code_mem_producedCodes fun _ => rfl⟩

/-- Every ending of a decoded command keeps the invariant, a raise being one its row lists. -/
theorem inv_exec {i : Instr} {s t : State} (hs : Inv s) (hd : decode s.issued.cmd = some i) (ht : exec i s = .next t) :
    Inv t := by
  obtain ⟨hlatch, hresp⟩ := hs
  obtain ⟨e, -, he, -⟩ := exec_sameEnding (SameSources.refl i s)
  obtain rfl : e.after s = t := Host.Outcome.next.inj (he.symm.trans ht)
  cases e with
  | completed regs truth d => exact ⟨hlatch, hresp.cons rfl (by decide) fun h => absurd rfl h⟩
  | cleared => exact ⟨latchConsistent_cleared rfl rfl rfl, hresp.cons rfl (by decide) fun _ => rfl⟩
  | raised c => exact inv_raise hresp (.inr ⟨c, i, rfl, hd, exec_raisesListed (decode_wellFormed hd) s c he⟩)

/-- Rule R71 keeps the invariant: the blocked answer, the illegal word, the decoded command. -/
theorem inv_runCommand {s t : State} (hs : Inv s) (ht : runCommand exec s = .next t) : Inv t := by
  obtain ⟨-, h⟩ | ⟨-, hd, h⟩ | ⟨-, i, hd, h⟩ := runCommand_cases exec s
  · obtain rfl := Host.Outcome.next.inj (h.symm.trans ht)
    exact ⟨hs.1, hs.2.cons rfl (by decide) fun _ => rfl⟩
  · obtain rfl := Host.Outcome.next.inj (h.symm.trans ht)
    exact inv_raise hs.2 (.inl ⟨rfl, hd⟩)
  · exact inv_exec hs hd (h.symm.trans ht)

/-- Settles O9: an idle step, a reset and a command each keep the invariant. -/
theorem latchAndResponsesStayConsistent : Obligations.LatchAndResponsesStayConsistent := by
  intro s t hs ht
  obtain ⟨-, h⟩ | ⟨rest, -, h⟩ | ⟨c, rest, -, h⟩ := step_cases s
  · obtain rfl := Host.Outcome.next.inj (h.symm.trans ht)
    exact hs
  · obtain rfl := Host.Outcome.next.inj (h.symm.trans ht)
    exact ⟨latchConsistent_cleared rfl rfl rfl, hs.2⟩
  · exact inv_runCommand (s := ({ s with pending := rest } : State).present c) hs (h.symm.trans ht)

/-- Settles O10. -/
theorem latchAndResponsesConsistentAtReset : Obligations.LatchAndResponsesConsistentAtReset :=
  ⟨latchConsistent_cleared rfl rfl rfl, nofun⟩

/-- Settles O12: reset is asserted by `State.assertReset`. -/
theorem resetClearsTheLatch : Obligations.ResetClearsTheLatch := by
  have hword : ({ t := false, err := false, cause := 0#4 } : Fstat).word = 0#32 := by decide
  refine ⟨⟨hword, rfl⟩, fun s rest hp => ?_⟩
  have hstep : step s = .next ({ s with pending := rest } : State).assertReset := by
    rw [step, runNext, takeAction_cons hp]
    rfl
  exact ⟨_, hstep, hword, rfl, rfl, rfl, rfl, rfl, rfl⟩

/-! ## The truth flag -/

/-- Settles O18: `T` is no source of a command but `RDSTAT`, so with either `T` the command has the same ending. -/
theorem truthFlagWrittenAndReadAsListed : Obligations.TruthFlagWrittenAndReadAsListed := by
  refine ⟨fun i s b hi => ?_, fun _ _ => rfl, fun _ => rfl, rfl⟩
  have hsrc : SameSources i s (s.setT b) := ⟨fun _ _ => rfl, rfl, fun h => absurd h hi⟩
  obtain ⟨e, hperm, he, he'⟩ := exec_sameEnding hsrc
  refine ⟨_, _, he, he', ?_⟩
  cases e with
  | completed regs truth d =>
    obtain ⟨-, htruth⟩ := hperm
    rw [← htruth]
    cases truth with
    | none => exact ⟨fun _ => rfl, rfl, rfl, rfl, rfl, nofun, fun _ => ⟨rfl, rfl⟩⟩
    | some v => exact ⟨fun _ => rfl, rfl, rfl, rfl, rfl, fun _ => rfl, nofun⟩
  | cleared =>
    obtain rfl : i = .clrerr := hperm
    exact ⟨fun _ => rfl, rfl, rfl, rfl, rfl, nofun, fun _ => ⟨rfl, rfl⟩⟩
  | raised c =>
    have htruth : writesTruth i = false := hperm
    rw [htruth]
    exact ⟨fun _ => rfl, rfl, rfl, rfl, rfl, nofun, fun _ => ⟨rfl, rfl⟩⟩

/-! ## Registers a command does not read -/

/-- Where two register files agree, or where something is written, the same writes leave them in agreement. -/
theorem writeRegs_getElem_congr {r : Reg} (regs : List (Reg × Scalar)) :
    ∀ {f g : Vector Scalar 16}, g[r] = f[r] ∨ r ∈ regs.map Prod.fst → (writeRegs g regs)[r] = (writeRegs f regs)[r] := by
  induction regs with
  | nil => exact fun h => h.resolve_right List.not_mem_nil
  | cons w ws ih =>
    intro f g h
    refine ih ?_
    by_cases hw : r = w.1
    · exact .inl (by simp [hw])
    · have hne : (w.1 : Nat) ≠ r := fun e => hw (Fin.ext e.symm)
      simpa [hw, hne] using h

/-- An ending reads no register: what the registers hold shows afterwards in the registers only. -/
theorem Ending.after_withRegs (e : Ending) (s : State) (g : Vector Scalar 16) :
    e.after { s with f := g } = { e.after s with f := (e.after { s with f := g }).f } := by
  cases e <;> rfl

theorem Ending.getF_after_congr (e : Ending) {s s' : State} {r : Reg} (h : s'.getF r = s.getF r) :
    (e.after s').getF r = (e.after s).getF r := by
  cases e with
  | completed regs truth d => exact writeRegs_getElem_congr regs (.inl h)
  | cleared => exact h
  | raised c => exact h

/-- After an answer `OK` a register the command names as its destination holds what the command wrote. -/
theorem Ending.getF_after_of_mem_writes {e : Ending} {i : Instr} {s s' : State} {r : Reg} {d : BitVec 64}
    (he : e.Permitted i) (hok : (e.after s).responses = ⟨respOk, d⟩ :: s.responses) (hr : r ∈ writes i) :
    (e.after s').getF r = (e.after s).getF r := by
  cases e with
  | completed regs truth d =>
    obtain ⟨hregs, -⟩ := he
    exact writeRegs_getElem_congr regs (.inr (hregs ▸ hr))
  | cleared =>
    obtain rfl : i = .clrerr := he
    exact absurd hr List.not_mem_nil
  | raised c => exact absurd (congrArg Response.resp (List.cons.inj hok).1) c.code_ne_respOk

/-! ### The step on one command -/

section RunCommand

variable (ex : Executor) {s : State}

theorem runCommand_of_blocks (h : s.blocks = true) : runCommand ex s = .next s.answerBlocked := by
  simp [runCommand, h]

theorem runCommand_of_illegal (hb : s.blocks = false) (hd : decode s.issued.cmd = none) :
    runCommand ex s = .next (s.raise .illegalCommand) := by
  simp [runCommand, hb, hd]

theorem runCommand_of_decode (hb : s.blocks = false) {i : Instr} (hd : decode s.issued.cmd = some i) :
    runCommand ex s = ex i s := by
  simp [runCommand, hb, hd]

end RunCommand

theorem step_of_issue {s : State} {c : Command} {rest : List HostAction} (h : s.pending = .issue c :: rest) :
    step s = runCommand exec (s.running c rest) := by
  rw [step, runNext, takeAction_cons h]
  rfl

/-- Rule R71 on two states that differ in unread registers: the blocked answer and the illegal word do not touch the
registers, and a decoded command has the same ending from both. -/
theorem runCommand_of_unread {s : State} {g : Vector Scalar 16} {U : Reg → Prop}
    (hU : ∀ r, ¬ U r → ({ s with f := g } : State).getF r = s.getF r)
    (hreads : ∀ i, decode s.issued.cmd = some i → ∀ r ∈ reads i, ¬ U r) :
    ∃ t g', runCommand exec s = .next t ∧ runCommand exec { s with f := g } = .next { t with f := g' } ∧
      (∀ r, ¬ U r → ({ t with f := g' } : State).getF r = t.getF r) ∧
      (∀ i d, decode s.issued.cmd = some i → s.fstat.err = false → t.responses = ⟨respOk, d⟩ :: s.responses →
        ∀ r ∈ writes i, ({ t with f := g' } : State).getF r = t.getF r) := by
  cases hb : s.blocks with
  | true =>
    have herr : s.fstat.err = true := (Bool.and_eq_true_iff.1 hb).1
    exact ⟨_, g, runCommand_of_blocks exec hb, runCommand_of_blocks exec (s := { s with f := g }) hb, hU,
      fun i d _ hok => absurd (herr.symm.trans hok) Bool.true_eq_false.mp⟩
  | false =>
    cases hd : decode s.issued.cmd with
    | none =>
      exact ⟨_, g, runCommand_of_illegal exec hb hd, runCommand_of_illegal exec (s := { s with f := g }) hb hd, hU, nofun⟩
    | some i =>
      have hsrc : SameSources i s { s with f := g } := ⟨fun r hr => hU r (hreads i hd r hr), rfl, fun _ => rfl⟩
      obtain ⟨e, hperm, he, he'⟩ := exec_sameEnding hsrc
      refine ⟨e.after s, (e.after { s with f := g }).f, (runCommand_of_decode exec hb hd).trans he, ?_,
        fun r hr => e.getF_after_congr (hU r hr), ?_⟩
      · calc runCommand exec { s with f := g }
          _ = exec i { s with f := g } := runCommand_of_decode exec (s := { s with f := g }) hb hd
          _ = .next (e.after { s with f := g }) := he'
          _ = _ := congrArg _ (e.after_withRegs s g)
      · rintro _ d ⟨⟩ - hok r hr
        exact Ending.getF_after_of_mem_writes hperm hok hr

/-- Settles O20: the step on a command is rule R71 on two states that differ in registers the command does not read. -/
theorem unreadRegistersCannotBeSeen : Obligations.UnreadRegistersCannotBeSeen := by
  intro s g U c rest hp hU hreads
  rw [step_of_issue hp, step_of_issue (s := { s with f := g }) hp]
  exact runCommand_of_unread (s := s.running c rest) hU hreads

/-! ## The constant ROM -/

/-- Settles O24: the seven irrational words are fields of the setting, the other fourteen are in no setting. -/
theorem constantRomHoldsTheTabledWords : Obligations.ConstantRomHoldsTheTabledWords := by
  refine ⟨by decide, fun p => ⟨fun k hk hexact => ?_, rfl⟩⟩
  interval_cases k <;> simp [constRom] at hexact ⊢

end Sys2Proof.Machine
end

section
/-! Table indices and the range of the sine (rules R41, R173, R174, R176): obligations O46 and O47. -/

namespace Sys2Proof.Machine

namespace Fix

/-! ## The sine's reduction -/

theorem angle180_range (a : Int) : 0 ≤ angle180 a ∧ angle180 a < 180 * 2 ^ 32 := by
  have h0 : 0 ≤ angle360 a := Int.emod_nonneg a (by decide)
  have h1 : angle360 a < 360 * 2 ^ 32 := Int.emod_lt_of_pos a (by decide)
  have hhalf : constHalfRot.toInt = 180 * 2 ^ 32 := by decide
  by_cases hv : angle360 a ≥ constHalfRot.toInt <;> simp [angle180, flipV, hv] <;> omega

theorem angle90_range (a : Int) : 0 ≤ angle90 a ∧ angle90 a < 90 * 2 ^ 32 := by
  have ⟨h0, h1⟩ := angle180_range a
  have hquarter : constQuarterRot.toInt = 90 * 2 ^ 32 := by decide
  by_cases hh : angle180 a ≥ constQuarterRot.toInt <;> simp [angle90, flipH, hh] <;> omega

/-- The index before it is reflected is one of the table. -/
theorem angle90_index_lt (a : Int) : (angle90 a / 2 ^ 22).toNat < tableSize := by
  have ⟨h0, h1⟩ := angle90_range a
  simp only [tableSize]
  omega

theorem sinIndex_of_not_flipH {a : Int} (h : flipH a = false) : sinIndex a = (angle90 a / 2 ^ 22).toNat := by
  simp [sinIndex, h]

theorem sinIndex_of_flipH {a : Int} (h : flipH a = true) : sinIndex a = tableSize - (angle90 a / 2 ^ 22).toNat := by
  simp [sinIndex, h]

theorem sinIndex_lt_of_not_flipH {a : Int} (h : flipH a = false) : sinIndex a < tableSize :=
  sinIndex_of_not_flipH h ▸ angle90_index_lt a

theorem one_le_sinIndex_of_flipH {a : Int} (h : flipH a = true) : 1 ≤ sinIndex a :=
  sinIndex_of_flipH h ▸ Nat.sub_pos_of_lt (angle90_index_lt a)

theorem sinIndex_le (a : Int) : sinIndex a ≤ tableSize := by
  cases h : flipH a with
  | false => exact (sinIndex_lt_of_not_flipH h).le
  | true => exact sinIndex_of_flipH h ▸ Nat.sub_le _ _

/-! ## The range of the sine -/

/-- Rule R173 before the sign: a table entry, or `One` at the entry that is not stored. -/
theorem sinCore_eq (p : Config) (a : Int) :
    ∃ v, (v = constOne ∨ ∃ i, i < tableSize ∧ v = p.sinTable i) ∧ sinCore p a = if flipV a then -v else v := by
  by_cases h : sinIndex a = tableSize
  · exact ⟨constOne, .inl rfl, by simp [sinCore, h]⟩
  · exact ⟨p.sinTable (sinIndex a), .inr ⟨_, lt_of_le_of_ne (sinIndex_le a) h, rfl⟩, by simp [sinCore, h]⟩

theorem toInt_neg_of_inUnit {v : Scalar} (h : InUnit v) : (-v).toInt = -v.toInt := by
  obtain ⟨h0, h1⟩ := h
  rw [BitVec.toInt_neg, Int.bmod_eq_of_le] <;> norm_num <;> omega

/-! ## The tangent's reduction -/

/-- Rule R176: the folded angle differs from the angle by half turns, and lies in `[-90°, 90°]`. -/
theorem tanReduce_spec (a : Int) :
    (∃ k : Int, tanReduce a = a + k * (180 * 2 ^ 32)) ∧ -(90 * 2 ^ 32) ≤ tanReduce a ∧ tanReduce a ≤ 90 * 2 ^ 32 := by
  have hhalf : constHalfRot.toInt = 180 * 2 ^ 32 := by decide
  have hquarter : constQuarterRot.toInt = 90 * 2 ^ 32 := by decide
  have hdiv := Int.mul_tdiv_add_tmod a (180 * 2 ^ 32)
  have hlt : a.tmod (180 * 2 ^ 32) < 180 * 2 ^ 32 := Int.tmod_lt_of_pos a (by decide)
  have hgt : -(180 * 2 ^ 32) < a.tmod (180 * 2 ^ 32) := Int.lt_tmod_of_pos a (by decide)
  simp only [tanReduce, hhalf, hquarter]
  split_ifs
  · exact ⟨⟨-a.tdiv (180 * 2 ^ 32) - 1, by omega⟩, by omega, by omega⟩
  · exact ⟨⟨-a.tdiv (180 * 2 ^ 32) + 1, by omega⟩, by omega, by omega⟩
  · exact ⟨⟨-a.tdiv (180 * 2 ^ 32), by omega⟩, by omega, by omega⟩

/-- The two ends of the folded range are the odd multiples of 90 degrees. -/
theorem natAbs_tanReduce_eq_iff (a : Int) :
    (tanReduce a).natAbs = 90 * 2 ^ 32 ↔ ∃ k : Int, a = (2 * k + 1) * (90 * 2 ^ 32) := by
  obtain ⟨⟨m, hm⟩, hlo, hhi⟩ := tanReduce_spec a
  constructor
  · intro h
    rcases Int.natAbs_eq (tanReduce a) with hpos | hneg
    · exact ⟨-m, by omega⟩
    · exact ⟨-m - 1, by omega⟩
  · rintro ⟨k, rfl⟩
    omega

end Fix

/-- Settles O47: the reflection takes `[0, N)` to `[1, N]`, and the tangent's index is `N` at the ends of the folded range
only. -/
theorem tableIndexStaysInTheTable : Obligations.TableIndexStaysInTheTable := by
  intro a
  obtain ⟨-, hlo, hhi⟩ := Fix.tanReduce_spec a
  refine ⟨Fix.sinIndex_le a, Fix.sinIndex_lt_of_not_flipH, Fix.one_le_sinIndex_of_flipH, by omega, ?_⟩
  rw [← Fix.natAbs_tanReduce_eq_iff]
  omega

/-- Settles O46: a table entry or `One` lies in `[0, One]`, and so does its negation in `[MinusOne, 0]`. -/
theorem sineStaysInTheUnitRange : Obligations.SineStaysInTheUnitRange := by
  intro p htable a
  obtain ⟨v, hv, hcore⟩ := Fix.sinCore_eq p a
  have hunit : InUnit v := by
    rcases hv with rfl | ⟨i, hi, rfl⟩
    · exact ⟨by decide, by decide⟩
    · have ⟨h0, h1⟩ := htable i hi
      exact ⟨h0, by omega⟩
  have hneg := Fix.toInt_neg_of_inUnit hunit
  obtain ⟨h0, h1⟩ := hunit
  rw [hcore]
  split <;> omega

end Sys2Proof.Machine
end

section
/-! The default sine table is the rounded sine (rule R42): obligation O48. -/

namespace Sys2Proof.Machine

/-! ## Integer division, seen in the reals -/

theorem cast_div_le_and_lt (m n : Nat) :
    ((m / n : Nat) : ℝ) ≤ (m : ℝ) / n ∧ (m : ℝ) / n < ((m / n : Nat) : ℝ) + 1 := by
  refine ⟨Nat.cast_div_le, ?_⟩
  rw [← Nat.floor_div_eq_div (K := ℝ)]
  exact Nat.lt_floor_add_one _

/-! ## The power series of the sine -/

/-- The `k`-th term of the sine's power series, without its sign. -/
noncomputable def sineTerm (x : ℝ) (k : Nat) : ℝ := x ^ (2 * k + 1) / (2 * k + 1).factorial

theorem sineTerm_zero (x : ℝ) : sineTerm x 0 = x := by simp [sineTerm]

theorem sineTerm_succ (x : ℝ) (k : Nat) :
    sineTerm x (k + 1) = sineTerm x k * x ^ 2 / (2 * (k + 1) * (2 * (k + 1) + 1) : Nat) := by
  have hfact : ((2 * (k + 1) + 1).factorial : ℝ) = (2 * (k + 1) * (2 * (k + 1) + 1) : Nat) * (2 * k + 1).factorial := by
    rw [← Nat.cast_mul]
    congr 1
    rw [Nat.factorial_succ, show 2 * (k + 1) = 2 * k + 1 + 1 from rfl, Nat.factorial_succ]
    ring
  have hne : ((2 * k + 1).factorial : ℝ) ≠ 0 := by positivity
  rw [sineTerm, sineTerm, hfact]
  field_simp
  ring

theorem sineTerm_nonneg {x : ℝ} (hx : 0 ≤ x) (k : Nat) : 0 ≤ sineTerm x k := by
  unfold sineTerm
  positivity

/-- The divisor from one term to the next is at least that from the first term to the second. -/
theorem six_le_sineTerm_divisor (k : Nat) : (6 : ℝ) ≤ (2 * (k + 1) * (2 * (k + 1) + 1) : Nat) := by
  have h : 2 * 3 ≤ 2 * (k + 1) * (2 * (k + 1) + 1) := Nat.mul_le_mul (by omega) (by omega)
  exact_mod_cast h

theorem sineTerm_antitone {x : ℝ} (hx : 0 ≤ x) (hx' : x ≤ 8 / 5) : Antitone (sineTerm x) := by
  refine antitone_nat_of_succ_le fun k => ?_
  have hsq : x ^ 2 ≤ (2 * (k + 1) * (2 * (k + 1) + 1) : Nat) := by
    nlinarith [six_le_sineTerm_divisor k]
  rw [sineTerm_succ]
  exact div_le_of_le_mul₀ (by positivity) (sineTerm_nonneg hx k)
    (mul_le_mul_of_nonneg_left hsq (sineTerm_nonneg hx k))

/-- The first `n` terms from the `k`-th on, the `k`-th with sign plus. -/
noncomputable def sinePartial (x : ℝ) (n k : Nat) : ℝ := ∑ j ∈ Finset.range n, (-1) ^ j * sineTerm x (k + j)

theorem sinePartial_zero (x : ℝ) (k : Nat) : sinePartial x 0 k = 0 := by simp [sinePartial]

theorem sinePartial_succ (x : ℝ) (n k : Nat) : sinePartial x (n + 1) k = sineTerm x k - sinePartial x n (k + 1) := by
  rw [sinePartial, Finset.sum_range_succ', sinePartial]
  simp only [pow_succ, pow_zero, one_mul, add_zero, mul_neg, mul_one, neg_mul, Finset.sum_neg_distrib, add_assoc, add_comm 1]
  ring

/-- An alternating series ends between its even and its odd partial sums. -/
theorem sin_sub_sinePartial {x : ℝ} (hx : 0 ≤ x) (hx' : x ≤ 8 / 5) (n : Nat) :
    0 ≤ Real.sin x - sinePartial x (2 * n) 0 ∧ Real.sin x - sinePartial x (2 * n) 0 ≤ sineTerm x (2 * n) := by
  have hlim : Filter.Tendsto (fun m => ∑ j ∈ Finset.range m, (-1) ^ j * sineTerm x j) Filter.atTop (nhds (Real.sin x)) := by
    simpa only [sineTerm, mul_div_assoc] using (Real.hasSum_sin x).tendsto_sum_nat
  have hlo := (sineTerm_antitone hx hx').alternating_series_le_tendsto hlim n
  have hhi := (sineTerm_antitone hx hx').tendsto_le_alternating_series hlim n
  rw [Finset.sum_range_succ, pow_mul, neg_one_sq, one_pow, one_mul] at hhi
  simp only [sinePartial, zero_add]
  constructor <;> linarith

/-! ## The model's series in 96-bit fixed point -/

/-- `t` is `2 ^ 96 * y`, at most three units too small. -/
def JustBelow (t : Nat) (y : ℝ) : Prop := t ≤ 2 ^ 96 * y ∧ 2 ^ 96 * y - 3 ≤ t

/-- The model's step from one term to the next loses at most one unit in each of its two divisions, beside half of what was
missing before. -/
theorem JustBelow.next {x : ℝ} {x2 t k : Nat} (hx : 0 ≤ x) (hx' : x ≤ 8 / 5)
    (hx2 : x2 ≤ 2 ^ 96 * x ^ 2) (hx2' : 2 ^ 96 * x ^ 2 - 1 ≤ x2) (ht : JustBelow t (sineTerm x k)) :
    JustBelow (t * x2 / 2 ^ 96 / (2 * (k + 1) * (2 * (k + 1) + 1))) (sineTerm x (k + 1)) := by
  obtain ⟨hle, hge⟩ := ht
  have hy0 := sineTerm_nonneg hx k
  have hy1 : sineTerm x k ≤ 8 / 5 := by
    calc sineTerm x k ≤ sineTerm x 0 := sineTerm_antitone hx hx' (Nat.zero_le k)
      _ ≤ 8 / 5 := by rw [sineTerm_zero]; exact hx'
  have ⟨hq, hq'⟩ := cast_div_le_and_lt (t * x2) (2 ^ 96)
  have ⟨hr, hr'⟩ := cast_div_le_and_lt (t * x2 / 2 ^ 96) (2 * (k + 1) * (2 * (k + 1) + 1))
  have hd := six_le_sineTerm_divisor k
  have hprod : ((t * x2 : Nat) : ℝ) / (2 ^ 96 : Nat) ≤ 2 ^ 96 * (sineTerm x k * x ^ 2) := by
    have hmul : (t : ℝ) * x2 ≤ 2 ^ 96 * sineTerm x k * (2 ^ 96 * x ^ 2) := by gcongr
    push_cast
    linarith
  have hprod' : 2 ^ 96 * (sineTerm x k * x ^ 2) - 28 / 3 ≤ ((t * x2 : Nat) : ℝ) / (2 ^ 96 : Nat) := by
    have hmul : (t : ℝ) * (2 ^ 96 * x ^ 2 - 1) ≤ t * x2 := by gcongr
    have hmul' : (2 ^ 96 * sineTerm x k - 3) * x ^ 2 ≤ t * x ^ 2 := by gcongr
    have hsq : x ^ 2 ≤ (8 / 5) ^ 2 := by gcongr
    push_cast
    linarith
  rw [JustBelow, sineTerm_succ]
  generalize 2 * (k + 1) * (2 * (k + 1) + 1) = d at *
  rw [mul_div_assoc', sub_le_iff_le_add]
  constructor
  · calc ((t * x2 / 2 ^ 96 / d : Nat) : ℝ) ≤ ((t * x2 / 2 ^ 96 : Nat) : ℝ) / d := hr
      _ ≤ 2 ^ 96 * (sineTerm x k * x ^ 2) / d := by gcongr; exact hq.trans hprod
  · rw [div_le_iff₀ (by linarith)]
    rw [div_lt_iff₀ (by linarith)] at hr'
    linarith

/-- Every term is in error by at most three units, and what is missing in one is taken from the sum or added to it. -/
theorem sineTerms_error {x : ℝ} {x2 : Nat} (hx : 0 ≤ x) (hx' : x ≤ 8 / 5)
    (hx2 : x2 ≤ 2 ^ 96 * x ^ 2) (hx2' : 2 ^ 96 * x ^ 2 - 1 ≤ x2) (n k t : Nat) (ht : JustBelow t (sineTerm x k)) :
    |((sineTerms x2 n (k + 1) t : Int) : ℝ) - 2 ^ 96 * sinePartial x n k| ≤ 3 * (n : ℝ) := by
  induction n generalizing k t with
  | zero => simp [sineTerms, sinePartial_zero]
  | succ n ih =>
    have hrest := abs_le.1 (ih (k + 1) _ (ht.next hx hx' hx2 hx2'))
    obtain ⟨hle, hge⟩ := ht
    rw [sineTerms, sinePartial_succ, abs_le]
    push_cast
    constructor <;> linarith

/-- Fourteen terms from `x` itself: the terms' errors, and the first term left out. -/
theorem sineTerms_error_sin {x : ℝ} {X : Nat} (hX : X = 2 ^ 96 * x) (hx' : x ≤ 8 / 5) :
    |((sineTerms (X * X / 2 ^ 96) 14 1 X : Int) : ℝ) - 2 ^ 96 * Real.sin x| ≤ 7500 := by
  have hx : 0 ≤ x := by
    have : (0 : ℝ) ≤ X := X.cast_nonneg
    linarith
  have hsq : ((X * X : Nat) : ℝ) / (2 ^ 96 : Nat) = 2 ^ 96 * x ^ 2 := by
    push_cast
    rw [hX]
    ring
  have ⟨hx2, hx2'⟩ := cast_div_le_and_lt (X * X) (2 ^ 96)
  rw [hsq] at hx2 hx2'
  have hfirst : JustBelow X (sineTerm x 0) := by
    rw [JustBelow, sineTerm_zero, hX]
    constructor <;> linarith
  have hsum := abs_le.1 (sineTerms_error hx hx' hx2 (by linarith) 14 0 X hfirst)
  have ⟨hrest, hrest'⟩ := sin_sub_sinePartial hx hx' 7
  have hlast : sineTerm x 14 ≤ (8 / 5) ^ 29 / (29).factorial := by
    unfold sineTerm
    gcongr
  norm_num [Nat.factorial] at hlast hsum hrest hrest'
  rw [abs_le]
  constructor <;> linarith

/-! ## The angle of a table entry -/

/-- The angle of entry `i`, `i / 1024` degrees, in radians (rules R42, R43). -/
noncomputable def tableAngle (i : Nat) : ℝ := (i : ℝ) / 1024 * (Real.pi / 180)

theorem piFix_error : |(piFix : ℝ) - 2 ^ 96 * Real.pi| ≤ 2 ^ 96 / 10 ^ 20 := by
  have h := Real.pi_gt_d20
  have h' := Real.pi_lt_d20
  norm_num [piFix, abs_le] at *
  constructor <;> linarith

theorem angleFix_error (i : Nat) : |(angleFix i : ℝ) - 2 ^ 96 * tableAngle i| ≤ 1 + 4300 * (i : ℝ) := by
  have ⟨hpi, hpi'⟩ := abs_le.1 piFix_error
  have ⟨hdiv, hdiv'⟩ := cast_div_le_and_lt (piFix * i) 184320
  have hi : (0 : ℝ) ≤ i := i.cast_nonneg
  have hlo : (2 ^ 96 * Real.pi - 2 ^ 96 / 10 ^ 20) * i ≤ piFix * i := by gcongr; linarith
  have hhi : piFix * i ≤ (2 ^ 96 * Real.pi + 2 ^ 96 / 10 ^ 20) * i := by gcongr; linarith
  rw [angleFix, tableAngle, abs_le]
  push_cast at *
  constructor <;> linarith

theorem tableAngle_le {i : Nat} (hi : i ≤ tableSize) : tableAngle i ≤ Real.pi / 2 := by
  have hN : (i : ℝ) ≤ 92160 := by exact_mod_cast hi
  have hle : (i : ℝ) * Real.pi ≤ 92160 * Real.pi := by gcongr
  unfold tableAngle
  linarith

theorem sineTerms_zero (x2 n k : Nat) : sineTerms x2 n k 0 = 0 := by
  induction n generalizing k with
  | zero => rfl
  | succ n ih => simp [sineTerms, ih]

theorem sineFix_zero : sineFix 0 = 0 := by simp [sineFix, angleFix, sineTerms_zero]

/-- The model's sine differs from the true one by the errors of its angle, of its series, and of the end of the series. -/
theorem sineFix_error {i : Nat} (hi : i ≤ tableSize) :
    |(sineFix i : ℝ) - 2 ^ 96 * Real.sin (tableAngle i)| ≤ 2 ^ 14 * (i : ℝ) := by
  rcases Nat.eq_zero_or_pos i with rfl | hpos
  · simp [sineFix_zero, tableAngle]
  have h1 : (1 : ℝ) ≤ i := by exact_mod_cast hpos
  have hN : (i : ℝ) ≤ 92160 := by exact_mod_cast hi
  obtain ⟨x, hx⟩ : ∃ x : ℝ, angleFix i = 2 ^ 96 * x := ⟨angleFix i / 2 ^ 96, by field_simp⟩
  have hangle := angleFix_error i
  rw [hx, ← mul_sub, abs_mul, abs_of_nonneg (by positivity)] at hangle
  have hx' : x ≤ 8 / 5 := by
    have hle := le_abs_self (x - tableAngle i)
    have hquarter := tableAngle_le hi
    have hpi := Real.pi_lt_d2
    linarith
  have hseries : |(sineFix i : ℝ) - 2 ^ 96 * Real.sin x| ≤ 7500 := sineTerms_error_sin hx hx'
  have hlip := Real.abs_sin_sub_sin_le x (tableAngle i)
  calc |(sineFix i : ℝ) - 2 ^ 96 * Real.sin (tableAngle i)|
      = |((sineFix i : ℝ) - 2 ^ 96 * Real.sin x) + 2 ^ 96 * (Real.sin x - Real.sin (tableAngle i))| := by ring_nf
    _ ≤ |(sineFix i : ℝ) - 2 ^ 96 * Real.sin x| + |2 ^ 96 * (Real.sin x - Real.sin (tableAngle i))| := abs_add_le _ _
    _ = |(sineFix i : ℝ) - 2 ^ 96 * Real.sin x| + 2 ^ 96 * |Real.sin x - Real.sin (tableAngle i)| := by
      rw [abs_mul, abs_of_nonneg (by positivity : (0 : ℝ) ≤ 2 ^ 96)]
    _ ≤ 2 ^ 14 * (i : ℝ) := by linarith

/-! ## Rounding to a table entry -/

/-- Rounding by an added half and a floored division. -/
theorem cast_round_error (z : Int) : |((((z + 2 ^ 63) / 2 ^ 64 : Int)) : ℝ) - z / 2 ^ 64| ≤ 1 / 2 := by
  have hlo : (z + 2 ^ 63) / 2 ^ 64 * 2 ^ 64 ≤ z + 2 ^ 63 := by omega
  have hhi : z + 2 ^ 63 ≤ (z + 2 ^ 63) / 2 ^ 64 * 2 ^ 64 + 2 ^ 64 := by omega
  generalize (z + 2 ^ 63) / 2 ^ 64 = q at *
  have hlo' : (q : ℝ) * 2 ^ 64 ≤ z + 2 ^ 63 := by exact_mod_cast hlo
  have hhi' : (z : ℝ) + 2 ^ 63 ≤ q * 2 ^ 64 + 2 ^ 64 := by exact_mod_cast hhi
  rw [abs_le]
  constructor <;> linarith

theorem sineRounded_error {i : Nat} (hi : i ≤ tableSize) :
    |(((sineFix i + 2 ^ 63) / 2 ^ 64 : Int) : ℝ) - Real.sin (tableAngle i) * 2 ^ 32| ≤ 1 / 2 + 1 / 1000 := by
  have hN : (i : ℝ) ≤ 92160 := by exact_mod_cast hi
  have ⟨hround, hround'⟩ := abs_le.1 (cast_round_error (sineFix i))
  have ⟨hsine, hsine'⟩ := abs_le.1 (sineFix_error hi)
  rw [abs_le]
  constructor <;> linarith

/-- The rounded sine fits a scalar. -/
theorem toInt_defaultSinTable {i : Nat} (hi : i ≤ tableSize) :
    (defaultSinTable i).toInt = (sineFix i + 2 ^ 63) / 2 ^ 64 := by
  have ⟨herr, herr'⟩ := abs_le.1 (sineRounded_error hi)
  have hlo : (-2 ^ 63 : ℝ) ≤ ((sineFix i + 2 ^ 63) / 2 ^ 64 : Int) := by linarith [Real.neg_one_le_sin (tableAngle i)]
  have hhi : (((sineFix i + 2 ^ 63) / 2 ^ 64 : Int) : ℝ) ≤ 2 ^ 63 - 1 := by linarith [Real.sin_le_one (tableAngle i)]
  exact toInt_wrap64 (by exact_mod_cast hlo) (by exact_mod_cast hhi)

/-- Settles O48: half a unit is the rounding's, and the model's sine before it is off by far less than a thousandth. -/
theorem sineTableIsTheRoundedSine : Obligations.SineTableIsTheRoundedSine := by
  intro i hi
  have hi' : i ≤ tableSize := hi.le
  show |(((defaultSinTable i).toInt : Int) : ℝ) - Real.sin (tableAngle i) * 2 ^ 32| ≤ 1 / 2 + 1 / 1000
  rw [toInt_defaultSinTable hi']
  exact sineRounded_error hi'

end Sys2Proof.Machine
end

section
/-! The default tangent table is the rounded tangent, with no entry clamped (rule R43): obligation O60. -/

namespace Sys2Proof.Machine

/-! ## The tangent of a table angle -/

theorem cos_tableAngle {i : Nat} (hi : i ≤ tableSize) : Real.cos (tableAngle i) = Real.sin (tableAngle (tableSize - i)) := by
  rw [← Real.sin_pi_div_two_sub]
  congr 1
  simp only [tableAngle, tableSize, Nat.cast_sub (show i ≤ 92160 from hi)]
  push_cast
  ring

theorem tableAngle_nonneg (i : Nat) : 0 ≤ tableAngle i := by
  have := Real.pi_pos
  unfold tableAngle
  positivity

/-- Jordan's inequality at a table angle: the sine lies above its chord. -/
theorem chord_le_sin_tableAngle {i : Nat} (hi : i ≤ tableSize) : (i : ℝ) / 92160 ≤ Real.sin (tableAngle i) := by
  have hpi := Real.pi_ne_zero
  calc (i : ℝ) / 92160 = 2 / Real.pi * tableAngle i := by
        unfold tableAngle
        field_simp
        ring
    _ ≤ Real.sin (tableAngle i) := Real.mul_le_sin (tableAngle_nonneg i) (tableAngle_le hi)

theorem chord_le_cos_tableAngle {i : Nat} (hi : i ≤ tableSize) :
    ((tableSize - i : Nat) : ℝ) / 92160 ≤ Real.cos (tableAngle i) :=
  cos_tableAngle hi ▸ chord_le_sin_tableAngle (Nat.sub_le _ _)

theorem one_le_complement {i : Nat} (hi : i < tableSize) : (1 : ℝ) ≤ (tableSize - i : Nat) := by
  exact_mod_cast Nat.sub_pos_of_lt hi

theorem cos_tableAngle_pos {i : Nat} (hi : i < tableSize) : 0 < Real.cos (tableAngle i) := by
  have hchord := chord_le_cos_tableAngle hi.le
  have hc := one_le_complement hi
  linarith

theorem tan_tableAngle_nonneg {i : Nat} (hi : i ≤ tableSize) : 0 ≤ Real.tan (tableAngle i) :=
  Real.tan_nonneg_of_nonneg_of_le_pi_div_two (tableAngle_nonneg i) (tableAngle_le hi)

/-- The tangent grows towards the pole no faster than the reciprocal of the distance to it. -/
theorem tan_tableAngle_mul_le {i : Nat} (hi : i < tableSize) :
    Real.tan (tableAngle i) * (tableSize - i : Nat) ≤ 92160 := by
  have htan : Real.tan (tableAngle i) * Real.cos (tableAngle i) = Real.sin (tableAngle i) :=
    Real.tan_mul_cos (cos_tableAngle_pos hi).ne'
  have hmul := mul_le_mul_of_nonneg_left (chord_le_cos_tableAngle hi.le) (tan_tableAngle_nonneg hi.le)
  have hone := Real.sin_le_one (tableAngle i)
  linarith

/-! ## The model's tangent -/

/-- The model's cosine is positive below the pole, by far more than its error. -/
theorem sineFix_complement_ge {i : Nat} (hi : i < tableSize) : (2 ^ 79 : ℝ) ≤ sineFix (tableSize - i) := by
  have hchord := chord_le_sin_tableAngle (Nat.sub_le tableSize i)
  obtain ⟨hsine, -⟩ := abs_le.1 (sineFix_error (Nat.sub_le tableSize i))
  have hc := one_le_complement hi
  linarith

/-- The two errors of the quotient, cleared of its denominator. -/
theorem sineFix_sub_tan_mul {i : Nat} (hi : i < tableSize) :
    |(sineFix i : ℝ) - Real.tan (tableAngle i) * sineFix (tableSize - i)| ≤ 2 ^ 32 := by
  have hN : (i : ℝ) ≤ 92160 := by exact_mod_cast hi.le
  have hnum := sineFix_error hi.le
  have hden := sineFix_error (Nat.sub_le tableSize i)
  have hpole := tan_tableAngle_mul_le hi
  have htan : Real.tan (tableAngle i) * Real.cos (tableAngle i) = Real.sin (tableAngle i) :=
    Real.tan_mul_cos (cos_tableAngle_pos hi).ne'
  have hnonneg := tan_tableAngle_nonneg hi.le
  rw [← htan] at hnum
  rw [← cos_tableAngle hi.le] at hden
  generalize Real.tan (tableAngle i) = t at *
  have hden' := mul_le_mul_of_nonneg_left hden hnonneg
  rw [← abs_of_nonneg hnonneg, ← abs_mul, abs_of_nonneg hnonneg] at hden'
  obtain ⟨hnum0, hnum1⟩ := abs_le.1 hnum
  obtain ⟨hden0, hden1⟩ := abs_le.1 hden'
  rw [abs_le]
  constructor <;> linarith

/-- Rounding by one more bit of a floored quotient, an added 1, and the bit shifted out. -/
theorem round_ediv_bounds {a b : Int} (hb : 0 < b) :
    |(((a * 2 ^ 33 / b + 1) / 2 : Int) : ℝ) * b - a * 2 ^ 32| ≤ (b : ℝ) / 2 := by
  have hlo : a * 2 ^ 33 / b * b ≤ a * 2 ^ 33 := Int.ediv_mul_le _ hb.ne'
  have hhi : a * 2 ^ 33 < (a * 2 ^ 33 / b + 1) * b := Int.lt_ediv_add_one_mul_self _ hb
  generalize a * 2 ^ 33 / b = p at *
  have hq : p ≤ 2 * ((p + 1) / 2) := by omega
  have hq' : 2 * ((p + 1) / 2) ≤ p + 1 := by omega
  generalize (p + 1) / 2 = q at *
  have hmul : p * b ≤ 2 * q * b := by gcongr
  have hmul' : 2 * q * b ≤ (p + 1) * b := by gcongr
  have hge : a * 2 ^ 33 - b ≤ 2 * q * b := by linarith
  have hle : 2 * q * b ≤ a * 2 ^ 33 + b := by linarith
  have hge' : (a : ℝ) * 2 ^ 33 - b ≤ 2 * q * b := by exact_mod_cast hge
  have hle' : (2 : ℝ) * q * b ≤ a * 2 ^ 33 + b := by exact_mod_cast hle
  rw [abs_le]
  constructor <;> linarith

theorem tangentRaw_error {i : Nat} (hi : i < tableSize) :
    |(tangentRaw i : ℝ) - Real.tan (tableAngle i) * 2 ^ 32| ≤ 1 / 2 + 1 / 1000 := by
  have hge := sineFix_complement_ge hi
  have hpos : (0 : ℝ) < sineFix (tableSize - i) := by linarith
  have ⟨hround, hround'⟩ := abs_le.1 (round_ediv_bounds (a := sineFix i) (Int.cast_pos.1 hpos))
  have ⟨hquot, hquot'⟩ := abs_le.1 (sineFix_sub_tan_mul hi)
  rw [← tangentRaw] at hround hround'
  refine le_of_mul_le_mul_right ?_ hpos
  rw [← abs_of_pos hpos, ← abs_mul, abs_of_pos hpos, abs_le]
  constructor <;> linarith

theorem tangentRaw_nonneg {i : Nat} (hi : i < tableSize) : 0 ≤ tangentRaw i := by
  obtain ⟨herr, -⟩ := abs_le.1 (tangentRaw_error hi)
  have hlt : (-1 : ℝ) < tangentRaw i := by linarith [tan_tableAngle_nonneg hi.le]
  have hlt' : -1 < tangentRaw i := by exact_mod_cast hlt
  omega

/-- The last entry, `cot(1/1024 degrees)`, is evaluated; every other angle is twice as far from the pole, or farther. -/
theorem tangentRaw_le {i : Nat} (hi : i < tableSize) : tangentRaw i ≤ 0x0000E52EE0D2BEBE := by
  rcases Nat.lt_or_ge i 92159 with hlt | hge
  · obtain ⟨-, herr⟩ := abs_le.1 (tangentRaw_error hi)
    have hc : (2 : ℝ) ≤ (tableSize - i : Nat) := by
      have : 2 ≤ tableSize - i := by rw [tableSize]; omega
      exact_mod_cast this
    have hpole := tan_tableAngle_mul_le hi
    have hmul := mul_le_mul_of_nonneg_left hc (tan_tableAngle_nonneg hi.le)
    have hle : (tangentRaw i : ℝ) ≤ (0x0000E52EE0D2BEBE : Int) := by
      push_cast
      linarith
    exact_mod_cast hle
  · obtain rfl : i = 92159 := by rw [tableSize] at hi; omega
    decide +kernel

/-- No entry is clamped. -/
theorem toInt_defaultTanTable {i : Nat} (hi : i < tableSize) : (defaultTanTable i).toInt = tangentRaw i := by
  have h0 := tangentRaw_nonneg hi
  have h1 := tangentRaw_le hi
  rw [defaultTanTable, if_neg (by omega)]
  exact toInt_wrap64 (by omega) (by omega)

/-- Settles O60: half a unit is the rounding's; the quotient of the model's two sines before it is off by far less than a
thousandth, even next to the pole, and is below the clamp there. -/
theorem tangentTableIsTheRoundedTangent : Obligations.TangentTableIsTheRoundedTangent := by
  intro i hi
  show |(((defaultTanTable i).toInt : Int) : ℝ) - Real.tan (tableAngle i) * 2 ^ 32| ≤ 1 / 2 + 1 / 1000 ∧
    0 ≤ (defaultTanTable i).toInt ∧ (defaultTanTable i).toInt ≤ 0x0000E52EE0D2BEBE
  rw [toInt_defaultTanTable hi]
  exact ⟨tangentRaw_error hi, tangentRaw_nonneg hi, tangentRaw_le hi⟩

end Sys2Proof.Machine
end

section
/-! The command word, field by field (rules R61, R62, R65): what it is for a word to be of a row, what the decoder reads and
what it accepts; then obligations O1 to O6 and O8. -/

namespace Sys2Proof.Machine

/-! ## A word is its six fields -/

theorem fields_append (w : CmdWord) :
    opField w ++ rdField w ++ raField w ++ rbField w ++ zField w ++ imm8Field w = w := by
  unfold opField rdField raField rbField zField imm8Field
  simp only [BitVec.extractLsb'_append_extractLsb'_eq_extractLsb']
  exact BitVec.extractLsb'_eq_self

theorem word_eq_iff {w w' : CmdWord} :
    w = w' ↔ opField w = opField w' ∧ rdField w = rdField w' ∧ raField w = raField w' ∧ rbField w = rbField w' ∧
      zField w = zField w' ∧ imm8Field w = imm8Field w' := by
  constructor
  · rintro rfl
    simp
  · rintro ⟨hop, hrd, hra, hrb, hz, himm⟩
    rw [← fields_append w, ← fields_append w', hop, hrd, hra, hrb, hz, himm]

@[simp] theorem fields_packWord (op : BitVec 8) (f : Fields) :
    opField (packWord op f) = op ∧ rdField (packWord op f) = f.rd ∧ raField (packWord op f) = f.ra ∧
      rbField (packWord op f) = f.rb ∧ zField (packWord op f) = 0#4 ∧ imm8Field (packWord op f) = f.imm8 := by
  unfold opField rdField raField rbField zField imm8Field packWord
  refine ⟨?_, ?_, ?_, ?_, ?_, ?_⟩
  -- The width is written as the sum of the fields' widths, which is what the library's lemmas on `++` see.
  all_goals
    change @BitVec.extractLsb' (8 + 4 + 4 + 4 + 4 + 8) _ _ _ = _
    simp only [BitVec.extractLsb'_append_eq_of_le, BitVec.extractLsb'_append_eq_right, BitVec.extractLsb'_eq_self,
      Nat.reduceLeDiff, Nat.reduceSub, le_refl, Nat.sub_self]

@[simp] theorem fields_and (w m : CmdWord) :
    opField (w &&& m) = opField w &&& opField m ∧ rdField (w &&& m) = rdField w &&& rdField m ∧
      raField (w &&& m) = raField w &&& raField m ∧ rbField (w &&& m) = rbField w &&& rbField m ∧
      zField (w &&& m) = zField w &&& zField m ∧ imm8Field (w &&& m) = imm8Field w &&& imm8Field m := by
  simp [opField, rdField, raField, rbField, zField, imm8Field, BitVec.extractLsb'_and]

/-! ## Registers and pairs in their fields (rule R62) -/

@[simp] theorem regOfField_regBits (r : Reg) : regOfField (regBits r) = r := rfl

@[simp] theorem regBits_regOfField (b : BitVec 4) : regBits (regOfField b) = b := rfl

@[simp] theorem pairOfField_pairBits (p : Pair) : pairOfField (pairBits p) = p := by revert p; decide

theorem pairBits_pairOfField {b : BitVec 4} (h : ¬ fieldWrong .pair b) : pairBits (pairOfField b) = b := by
  revert h b
  unfold fieldWrong
  decide

@[simp] theorem not_fieldWrong_scalar (b : BitVec 4) : ¬ fieldWrong .scalar b := by simp [fieldWrong]

@[simp] theorem not_fieldWrong_pairBits (p : Pair) : ¬ fieldWrong .pair (pairBits p) := by
  revert p
  unfold fieldWrong
  decide

@[simp] theorem fieldWrong_unused (b : BitVec 4) : fieldWrong .unused b ↔ b ≠ 0#4 := by simp [fieldWrong]

/-! ## When a word is of a row (rules R61, R65) -/

/-- The bits of a register field that rule R61 fixes. -/
def FieldUse.mask : FieldUse → BitVec 4
  | .scalar => 0x0#4
  | .pair => 0x1#4
  | .unused => 0xF#4

/-- The fixed bits of a field are zero exactly when the field does not break its use. -/
theorem and_mask_eq_zero_iff (u : FieldUse) (b : BitVec 4) : b &&& u.mask = 0#4 ↔ ¬ fieldWrong u b := by
  revert b
  unfold fieldWrong
  cases u <;> decide

/-- The mask column of rule R61's table is its columns for the three register fields, with `op`, `z` and, but for `LDC`,
`imm8` fixed. -/
theorem fields_mask (fmt : Format) :
    opField fmt.mask = 0xFF#8 ∧ rdField fmt.mask = (formatUse fmt).1.mask ∧ raField fmt.mask = (formatUse fmt).2.1.mask ∧
      rbField fmt.mask = (formatUse fmt).2.2.mask ∧ zField fmt.mask = 0xF#4 ∧
      imm8Field fmt.mask = if fmt = .dc then 0x00#8 else 0xFF#8 := by
  cases fmt <;> decide

theorem opMatch_eq_packWord (op : BitVec 8) : opMatch op = packWord op {} := by revert op; decide

theorem fits_iff {fmt : Format} {op : BitVec 8} {w : CmdWord} :
    fits fmt op w = true ↔
      opField w = op ∧ ¬ fieldWrong (formatUse fmt).1 (rdField w) ∧ ¬ fieldWrong (formatUse fmt).2.1 (raField w) ∧
        ¬ fieldWrong (formatUse fmt).2.2 (rbField w) ∧ zField w = 0#4 ∧ (fmt ≠ .dc → imm8Field w = 0#8) := by
  have hop : opField w &&& 0xFF#8 = opField w := BitVec.and_allOnes
  have hz : zField w &&& 0xF#4 = zField w := BitVec.and_allOnes
  have himm : (imm8Field w &&& if fmt = .dc then 0x00#8 else 0xFF#8) = 0#8 ↔ (fmt ≠ .dc → imm8Field w = 0#8) := by
    have hones : imm8Field w &&& 0xFF#8 = imm8Field w := BitVec.and_allOnes
    by_cases hf : fmt = .dc <;> simp [hf, hones]
  rw [fits, beq_iff_eq, opMatch_eq_packWord, word_eq_iff]
  simp only [fields_and, fields_packWord, fields_mask, and_mask_eq_zero_iff, hop, hz, himm]

theorem opField_of_fits {fmt : Format} {op : BitVec 8} {w : CmdWord} (h : fits fmt op w = true) : opField w = op :=
  (fits_iff.1 h).1

/-! ## The table has one row for an opcode (rule R64) -/

theorem opcodeTable_op_nodup : (opcodeTable.map OpRow.op).Nodup := by decide

theorem row_eq_of_op_eq {a b : OpRow} (ha : a ∈ opcodeTable) (hb : b ∈ opcodeTable) (h : a.op = b.op) : a = b :=
  List.inj_on_of_nodup_map opcodeTable_op_nodup ha hb h

theorem row_mem_opcodeTable (i : Instr) : i.row ∈ opcodeTable := by
  cases i <;> exact List.elem_iff.1 rfl

/-- `LDC` is the one command of format `DC`. -/
theorem format_eq_dc_iff : ∀ row ∈ opcodeTable, row.format = .dc ↔ row.op = 0x05#8 := by decide

/-! ## What the decoder reads -/

/-- What a register field of a word says, read by its use and written back. -/
def FieldUse.reread (b : BitVec 4) : FieldUse → BitVec 4
  | .scalar => regBits (regOfField b)
  | .pair => pairBits (pairOfField b)
  | .unused => 0#4

theorem FieldUse.reread_eq {u : FieldUse} {b : BitVec 4} (h : ¬ fieldWrong u b) : u.reread b = b := by
  cases u with
  | scalar => rfl
  | pair => exact pairBits_pairOfField h
  | unused => exact (not_not.1 (mt (fieldWrong_unused b).2 h)).symm

/-- The operand fields of a word, read by its format and written back. -/
def rereadFields (fmt : Format) (w : CmdWord) : Fields where
  rd := (formatUse fmt).1.reread (rdField w)
  ra := (formatUse fmt).2.1.reread (raField w)
  rb := (formatUse fmt).2.2.reread (rbField w)
  imm8 := if fmt = .dc then imm8Field w else 0#8

/-- No bit of a word that is of a row is lost in reading. -/
theorem packWord_rereadFields {fmt : Format} {op : BitVec 8} {w : CmdWord} (h : fits fmt op w = true) :
    packWord op (rereadFields fmt w) = w := by
  obtain ⟨hop, hrd, hra, hrb, hz, himm⟩ := fits_iff.1 h
  have himm' : (if fmt = .dc then imm8Field w else 0#8) = imm8Field w := by
    by_cases hf : fmt = .dc
    · exact if_pos hf
    · rw [if_neg hf, himm hf]
  rw [word_eq_iff]
  simp [rereadFields, FieldUse.reread_eq, *]

/-- What a decoded command is: the word is of its row, and its operands are what the format reads. -/
theorem decode_eq_some {w : CmdWord} {i : Instr} (h : decode w = some i) :
    fits i.row.format i.row.op w = true ∧ i.fields = rereadFields i.row.format w := by
  unfold decode at h
  split at h
  case h_64 => cases h
  all_goals
    simp only [decodeZ, decodeD, decodeA, decodeDA, decodeDAB, decodeAB, decodePSS, decodeXPS, decodeXPP, decodePPP,
      decodeSPP, decodePPS, decodeDC, Option.ite_none_right_eq_some, Bool.and_eq_true] at h
    obtain ⟨hfits, h⟩ := h
    cases h
  case h_5 => exact ⟨hfits.1, rfl⟩
  all_goals exact ⟨hfits, rfl⟩

/-- The row of a decoded command is the row of the word's opcode. -/
theorem row_eq_of_decode {w : CmdWord} {i : Instr} (h : decode w = some i) {row : OpRow} (hrow : row ∈ opcodeTable)
    (hop : row.op = opField w) : i.row = row := by
  obtain ⟨hfits, -⟩ := decode_eq_some h
  exact row_eq_of_op_eq (row_mem_opcodeTable i) hrow ((opField_of_fits hfits).symm.trans hop.symm)

/-- Settles O2: a decoded command's fields are the word's, none lost. -/
theorem encodeOfDecodeIsTheWord : Obligations.EncodeOfDecodeIsTheWord := by
  intro w i h
  obtain ⟨hfits, hfields⟩ := decode_eq_some h
  refine ⟨decode_wellFormed h, ?_⟩
  rw [encode, hfields, packWord_rereadFields hfits]

/-- Settles O5: a word of two rows has the opcode of both. -/
theorem atMostOneRowMatches : Obligations.AtMostOneRowMatches := by
  refine ⟨fun w a ha b hb hfa hfb => ?_, fun w i h => ⟨row_mem_opcodeTable i, (decode_eq_some h).1⟩⟩
  exact row_eq_of_op_eq ha hb ((opField_of_fits hfa).symm.trans (opField_of_fits hfb))

/-! ## The decoder reads an encoded command back -/

section Formats

variable (op : BitVec 8) (rd ra rb : Reg) (id ia ib : Pair)

theorem decodeZ_packWord (mk : Instr) : decodeZ op mk (packWord op {}) = some mk := by
  simp [decodeZ, fits_iff, formatUse]

theorem decodeD_packWord (mk : Reg → Instr) : decodeD op mk (packWord op { rd := regBits rd }) = some (mk rd) := by
  simp [decodeD, fits_iff, formatUse]

theorem decodeA_packWord (mk : Reg → Instr) : decodeA op mk (packWord op { ra := regBits ra }) = some (mk ra) := by
  simp [decodeA, fits_iff, formatUse]

theorem decodeDA_packWord (mk : Reg → Reg → Instr) :
    decodeDA op mk (packWord op { rd := regBits rd, ra := regBits ra }) = some (mk rd ra) := by
  simp [decodeDA, fits_iff, formatUse]

theorem decodeDAB_packWord (mk : Reg → Reg → Reg → Instr) :
    decodeDAB op mk (packWord op { rd := regBits rd, ra := regBits ra, rb := regBits rb }) = some (mk rd ra rb) := by
  simp [decodeDAB, fits_iff, formatUse]

theorem decodeAB_packWord (mk : Reg → Reg → Instr) :
    decodeAB op mk (packWord op { ra := regBits ra, rb := regBits rb }) = some (mk ra rb) := by
  simp [decodeAB, fits_iff, formatUse]

theorem decodePSS_packWord (mk : Pair → Reg → Reg → Instr) :
    decodePSS op mk (packWord op { rd := pairBits id, ra := regBits ra, rb := regBits rb }) = some (mk id ra rb) := by
  simp [decodePSS, fits_iff, formatUse]

theorem decodeXPS_packWord (mk : Pair → Reg → Instr) :
    decodeXPS op mk (packWord op { ra := pairBits ia, rb := regBits rb }) = some (mk ia rb) := by
  simp [decodeXPS, fits_iff, formatUse]

theorem decodeXPP_packWord (mk : Pair → Pair → Instr) :
    decodeXPP op mk (packWord op { ra := pairBits ia, rb := pairBits ib }) = some (mk ia ib) := by
  simp [decodeXPP, fits_iff, formatUse]

theorem decodePPP_packWord (mk : Pair → Pair → Pair → Instr) :
    decodePPP op mk (packWord op { rd := pairBits id, ra := pairBits ia, rb := pairBits ib }) = some (mk id ia ib) := by
  simp [decodePPP, fits_iff, formatUse]

theorem decodeSPP_packWord (mk : Reg → Pair → Pair → Instr) :
    decodeSPP op mk (packWord op { rd := regBits rd, ra := pairBits ia, rb := pairBits ib }) = some (mk rd ia ib) := by
  simp [decodeSPP, fits_iff, formatUse]

theorem decodePPS_packWord (mk : Pair → Pair → Reg → Instr) :
    decodePPS op mk (packWord op { rd := pairBits id, ra := pairBits ia, rb := regBits rb }) = some (mk id ia rb) := by
  simp [decodePPS, fits_iff, formatUse]

theorem decodeDC_packWord (mk : Reg → BitVec 8 → Instr) {k : BitVec 8} (hk : k.toNat < constCount) :
    decodeDC op mk (packWord op { rd := regBits rd, imm8 := k }) = some (mk rd k) := by
  simp [decodeDC, fits_iff, formatUse, hk]

end Formats

/-- Settles O1: the opcode picks the row, and each format reads its own fields back. -/
theorem decodeOfEncodeIsTheInstruction : Obligations.DecodeOfEncodeIsTheInstruction := by
  intro i h
  have hop : opField (encode i) = i.row.op := (fields_packWord _ _).1
  rw [decode, hop]
  cases i with
  | ldc rd k => exact decodeDC_packWord _ rd .ldc (of_decide_eq_true h)
  | rdstat | clrerr => exact decodeZ_packWord _ _
  | wrr | wri => exact decodeD_packWord _ _ _
  | rdr | rdi | hasfrac => exact decodeA_packWord _ _ _
  | mov | neg | abs | sign | fabs | floor | ceil | round | frac | sqrt | log2 | ln | pow2 | sin | cos | tan | atan | acos
  | todeg | torad => exact decodeDA_packWord _ _ _ _
  | add | sub | mul | div | mod | fadd | fsub | fmul | fmod | pow | atan2 => exact decodeDAB_packWord _ _ _ _ _
  | cmpeq | cmpne | cmplt | cmpgt | cmple | cmpge => exact decodeAB_packWord _ _ _ _
  | icreate | icreateu => exact decodePSS_packWord _ _ _ _ _
  | iovlv => exact decodeXPS_packWord _ _ _ _
  | iovl | ieq => exact decodeXPP_packWord _ _ _ _
  | iint | iunion => exact decodePPP_packWord _ _ _ _ _
  | imtv => exact decodeSPP_packWord _ _ _ _ _
  | isetlo | isetlou | isethi | isethiu | iaddlo | iaddlou | iaddhi | iaddhiu | itrans | itransu =>
    exact decodePPS_packWord _ _ _ _ _

/-! ## The illegal words (rule R65) -/

/-- A word of a row decodes, but for the further condition on `LDC`'s index. -/
theorem decode_isSome {row : OpRow} (hrow : row ∈ opcodeTable) {w : CmdWord} (hfits : fits row.format row.op w = true)
    (hk : row.format = .dc → (imm8Field w).toNat < constCount) : ∃ i, decode w = some i := by
  rw [decode, opField_of_fits hfits]
  fin_cases hrow
  -- `LDC` is the fifth row of the table, and the one row whose arm tests more than `fits`.
  on_goal 5 => exact ⟨_, if_pos (Bool.and_eq_true_iff.2 ⟨hfits, decide_eq_true (hk rfl)⟩)⟩
  all_goals exact ⟨_, if_pos hfits⟩

/-- Rule R61's further condition, said of the encoded fields: the index is zero but in `LDC`. -/
theorem wellFormed_eq (i : Instr) : i.wellFormed = decide (i.fields.imm8.toNat < constCount) := by
  cases i <;> rfl

theorem not_illegalWord_of_decode {w : CmdWord} {i : Instr} (h : decode w = some i) : ¬ IllegalWord w := by
  obtain ⟨hfits, hfields⟩ := decode_eq_some h
  obtain ⟨hop, hrd, hra, hrb, hz, himm⟩ := fits_iff.1 hfits
  have hdc : i.row.format = .dc ↔ i.row.op = 0x05#8 := format_eq_dc_iff _ (row_mem_opcodeTable i)
  rintro (hnone | hz' | ⟨himm', hop'⟩ | ⟨hop', hindex⟩ | ⟨row, hrow, hrowop, hwrong⟩)
  · exact hnone _ (row_mem_opcodeTable i) hop.symm
  · exact hz' hz
  · exact himm' (himm fun hf => hop' (hop.trans (hdc.1 hf)))
  · have hf : i.row.format = .dc := hdc.2 (hop.symm.trans hop')
    have hk : i.fields.imm8.toNat < constCount := of_decide_eq_true (wellFormed_eq i ▸ decode_wellFormed h)
    rw [hfields] at hk
    simp only [rereadFields, hf, if_true, constCount] at hk
    omega
  · obtain rfl := row_eq_of_decode h hrow hrowop
    simp [*] at hwrong

theorem decode_isSome_of_not_illegalWord {w : CmdWord} (h : ¬ IllegalWord w) : ∃ i, decode w = some i := by
  simp only [IllegalWord, not_or, not_forall, not_exists, not_and, not_not] at h
  obtain ⟨⟨row, hrow, hop⟩, hz, himm, hindex, hfields⟩ := h
  obtain ⟨hrd, hra, hrb⟩ := hfields row hrow hop
  have hdc : row.format = .dc ↔ opField w = 0x05#8 := hop ▸ format_eq_dc_iff row hrow
  refine decode_isSome hrow (fits_iff.2 ⟨hop.symm, hrd, hra, hrb, hz, fun hf => ?_⟩) fun hf => ?_
  · exact not_not.1 fun hne => hf (hdc.2 (himm hne))
  · exact Nat.lt_succ_of_le (not_lt.1 (hindex (hdc.1 hf)))

theorem decode_eq_none_iff {w : CmdWord} : decode w = none ↔ IllegalWord w := by
  constructor
  · intro hd
    by_contra h
    obtain ⟨i, hi⟩ := decode_isSome_of_not_illegalWord h
    exact Option.some_ne_none i (hi.symm.trans hd)
  · intro h
    exact Option.eq_none_iff_forall_ne_some.2 fun i hi => not_illegalWord_of_decode hi h

/-! ## The step on a command -/

theorem blocks_eq_false_iff {s : State} :
    s.blocks = false ↔ s.fstat.err = false ∨ s.issued.cmd = 0x08000000#32 ∨ s.issued.cmd = 0x09000000#32 := by
  simp [State.blocks, runsWhileLatched, or_iff_not_imp_left]

theorem stepWith_of_issue (p : Config) {s : State} {c : Command} {rest : List HostAction}
    (h : s.pending = .issue c :: rest) : stepWith p s = runCommand (execWith p) (s.running c rest) := by
  rw [stepWith, runNext, takeAction_cons h]
  rfl

/-- Settles O3: the decoder refuses exactly the words of rule R65, and a refused word raises. -/
theorem illegalWordRaisesIllegalCommand : Obligations.IllegalWordRaisesIllegalCommand := by
  refine ⟨fun s c rest hp he => ⟨fun hw => ?_, decode_isSome_of_not_illegalWord⟩, .inl (by decide), .inl (by decide)⟩
  have hb : (s.running c rest).blocks = false := blocks_eq_false_iff.2 (.inl he)
  exact ⟨_, (step_of_issue hp).trans (runCommand_of_illegal exec hb (decode_eq_none_iff.2 hw)), raisedTo_raise _ _⟩

/-- Settles O4: eleven closed words, run through the decoder. -/
theorem sampleWordsDecode : Obligations.SampleWordsDecode := by
  unfold Obligations.SampleWordsDecode
  decide

/-- Settles O6: a command that is not blocked and decodes is run by the executor, whichever it is. -/
theorem stepRunsTheDecodedCommand : Obligations.StepRunsTheDecodedCommand := by
  refine ⟨fun s c rest i hp hrun hd => ?_, fun i s => by rw [execWith_config], fun s => by rw [stepWith_config]⟩
  have hb : (s.running c rest).blocks = false := blocks_eq_false_iff.2 hrun
  exact ⟨(step_of_issue hp).trans (runCommand_of_decode exec hb hd),
    fun p => (stepWith_of_issue p hp).trans (runCommand_of_decode (execWith p) hb hd)⟩

/-- Every command has a next state: `OK` or a raise. -/
theorem execWith_answers (p : Config) (i : Instr) (s : State) : ∃ t, execWith p i s = .next t := by
  obtain ⟨_, _, -, h⟩ | ⟨_, h⟩ := execWith_endsWithin p i s
  · exact ⟨_, h⟩
  · exact ⟨_, h⟩

theorem runCommand_answers (p : Config) (s : State) : ∃ t, runCommand (execWith p) s = .next t := by
  obtain ⟨-, h⟩ | ⟨-, -, h⟩ | ⟨-, i, -, h⟩ := runCommand_cases (execWith p) s
  · exact ⟨_, h⟩
  · exact ⟨_, h⟩
  · exact h ▸ execWith_answers p i s

theorem stepWith_answers (p : Config) (s : State) : ∃ t, stepWith p s = .next t := by
  obtain ⟨-, h⟩ | ⟨_, -, h⟩ | ⟨_, _, -, h⟩ := stepWith_cases p s
  · exact ⟨_, h⟩
  · exact ⟨_, h⟩
  · exact h ▸ runCommand_answers p _

/-- Settles O8: `step` is `stepWith` at the defaults. -/
theorem everyStepAnswersANextState : Obligations.EveryStepAnswersANextState :=
  ⟨stepWith_config ▸ stepWith_answers config, stepWith_answers⟩

end Sys2Proof.Machine
end

section
/-! Moves, conversions and the status word (rules R80 to R87): obligations O21, O22, O23 and O25. -/

namespace Sys2Proof.Machine

/-! ## Raw moves -/

theorem writesScalar_wrr (s : State) (rd : Reg) : WritesScalar (.wrr rd) s rd s.issued.wdata :=
  writesScalarBy_of_complete rfl

theorem returnsData_rdr (s : State) (ra : Reg) : ReturnsData (.rdr ra) s (s.getF ra) := returnsData_of_complete rfl

/-- Settles O21: the round trip is `RDR` in the state that `WRR` leaves. -/
theorem rawMovesAreExact : Obligations.RawMovesAreExact := by
  refine ⟨writesScalar_wrr, returnsData_rdr, fun s t rd ht => ?_, fun s rd ra => writesScalarBy_of_complete rfl⟩
  obtain ⟨u, ⟨hu, -⟩, hrd, -⟩ := writesScalar_wrr s rd
  obtain rfl : u = t := Host.Outcome.next.inj (hu.symm.trans ht)
  exact hrd ▸ returnsData_rdr u rd

/-! ## Integers in and out -/

/-- A signed 32-bit integer times `2^32` fits a scalar, so `WRI` loses nothing. -/
theorem toInt_wrap64_mul_two_pow (w : BitVec 32) : (wrap64 (w.toInt * 2 ^ 32)).toInt = w.toInt * 2 ^ 32 := by
  have hlo : -2 ^ 31 ≤ w.toInt := BitVec.le_toInt w
  have hhi : w.toInt < 2 ^ 31 := BitVec.toInt_lt
  exact toInt_wrap64 (by omega) (by omega)

theorem wdataInt_eq (s : State) : s.wdataInt = (s.issued.wdata.setWidth 32).toInt := by
  rw [State.wdataInt, BitVec.setWidth_eq_extractLsb' (by decide)]

/-- The arithmetic shift of rule R83 is the division by `2^32`, toward minus infinity. -/
theorem toInt_integerOut (a : Scalar) : (integerOut a).toInt = a.toInt / 2 ^ 32 := by
  rw [integerOut, BitVec.toInt_sshiftRight, Int.shiftRight_eq_div_pow]
  norm_num

theorem integerOut_range (a : Scalar) : -2 ^ 31 ≤ (integerOut a).toInt ∧ (integerOut a).toInt ≤ 2 ^ 31 - 1 := by
  have ha := scalar_range a
  rw [toInt_integerOut]
  omega

/-- Settles O22. -/
theorem integerConversions : Obligations.IntegerConversions := by
  refine ⟨fun s rd => ⟨_, writesScalarBy_of_complete rfl, ?_⟩,
    fun s ra => ⟨_, returnsData_of_complete rfl, toInt_integerOut _, integerOut_range _⟩⟩
  rw [wdataInt_eq]
  exact toInt_wrap64_mul_two_pow _

/-! ## The constant ROM's words -/

/-- `LDC` of an index the ROM has (rule R84). -/
theorem execLdcWith_of_getElem? {p : Config} {k : BitVec 8} {v : Scalar} (h : (constRom p)[k.toNat]? = some v)
    (rd : Reg) (s : State) : execLdcWith p rd k s = complete (s.setF rd v) := by
  rw [execLdcWith, constRead, h]

/-- `LDC` of an index the ROM does not have (rules R65, R84). -/
theorem execLdcWith_of_length_le {p : Config} {k : BitVec 8} (h : (constRom p).length ≤ k.toNat) (rd : Reg) (s : State) :
    execLdcWith p rd k s = .next (s.raise .illegalCommand) := by
  rw [execLdcWith, constRead, List.getElem?_eq_none h]

theorem writesScalarBy_ldc (p : Config) {k : BitVec 8} (hk : k.toNat ≤ 20) (s : State) (rd : Reg) :
    ∃ v, (constRom p)[k.toNat]? = some v ∧ WritesScalarBy (execWith p) (.ldc rd k) s rd v := by
  have hlen : k.toNat < (constRom p).length := Nat.lt_succ_of_le hk
  have hread := List.getElem?_eq_getElem hlen
  exact ⟨_, hread, writesScalarBy_of_complete (execLdcWith_of_getElem? hread rd s)⟩

/-- Settles O23: `exec` is `execWith` at the defaults. -/
theorem loadConstantReadsTheRom : Obligations.LoadConstantReadsTheRom := by
  intro s rd k
  refine ⟨fun hk => ?_, fun hk => raises_of_raise (execLdcWith_of_length_le (p := config) hk rd s),
    fun p hk => writesScalarBy_ldc p hk s rd⟩
  simpa only [WritesScalar, execWith_config] using writesScalarBy_ldc config hk s rd

/-! ## The status word -/

/-- Rule R26: bits 7:4 of `FSTAT` are `CAUSE`, and bits 3:2 and 31:8 are 0. -/
theorem Fstat.word_cause_and_zeros (x : Fstat) :
    x.word.extractLsb' 2 2 = 0#2 ∧ x.word.extractLsb' 4 4 = x.cause ∧ x.word.extractLsb' 8 24 = 0#24 := by
  cases x with | mk t e c => cases t <;> cases e <;> revert c <;> decide

/-- Rule R86: the high half of the status word is `FCMD`. -/
theorem statusWord_high (s : State) : s.statusWord.extractLsb' 32 32 = s.fcmd := BitVec.extractLsb'_append_eq_left

/-- Rule R86: any field of the low half of the status word is that field of `FSTAT`. -/
theorem statusWord_low (s : State) {start len : Nat} (h : start + len ≤ 32) :
    s.statusWord.extractLsb' start len = s.fstat.word.extractLsb' start len :=
  BitVec.extractLsb'_append_eq_of_add_le h

theorem getLsbD_statusWord (s : State) {i : Nat} (h : i < 32) : s.statusWord.getLsbD i = s.fstat.word.getLsbD i := by
  rw [State.statusWord, BitVec.getLsbD_append, if_pos h]

/-- With nothing latched the status word is `T` alone (rule R86). -/
theorem statusWord_of_consistent {s : State} (hs : LatchConsistent s) (he : s.fstat.err = false) :
    s.statusWord = 0#64 ∨ s.statusWord = 1#64 := by
  obtain ⟨hc, hw⟩ := hs.1 he
  rw [State.statusWord, Fstat.word, hw, hc, he]
  cases s.fstat.t <;> decide

theorem step_of_runsWhileLatched {s : State} {c : Command} {rest : List HostAction} {i : Instr}
    (hp : s.pending = .issue c :: rest) (hc : c.cmd = 0x08000000#32 ∨ c.cmd = 0x09000000#32) (hd : decode c.cmd = some i) :
    step s = exec i (s.running c rest) :=
  (stepRunsTheDecodedCommand.1 s c rest i hp (.inr hc) hd).1

theorem decode_rdstat : decode 0x08000000#32 = some .rdstat := by decide

theorem decode_clrerr : decode 0x09000000#32 = some .clrerr := by decide

/-- Settles O25: the two words are never blocked, and each decodes to its command. -/
theorem statusIsReadAndCleared : Obligations.StatusIsReadAndCleared := by
  refine ⟨fun s => ?_, fun s => ⟨_, ⟨rfl, rfl, rfl, rfl, rfl⟩, fun _ => rfl, rfl, rfl, rfl, rfl⟩,
    fun s c rest hp => ⟨fun hc => ?_, fun hc => ?_⟩⟩
  · obtain ⟨hlow, hcause, hhigh⟩ := s.fstat.word_cause_and_zeros
    exact ⟨s.statusWord, returnsData_of_complete rfl, statusWord_high s,
      (getLsbD_statusWord s (by decide)).trans s.fstat.word_bit0,
      (getLsbD_statusWord s (by decide)).trans s.fstat.word_bit1,
      (statusWord_low s (by decide)).trans hlow, (statusWord_low s (by decide)).trans hcause,
      (statusWord_low s (by decide)).trans hhigh, statusWord_of_consistent⟩
  · exact step_of_runsWhileLatched hp (.inl hc) (hc ▸ decode_rdstat)
  · exact step_of_runsWhileLatched hp (.inr hc) (hc ▸ decode_clrerr)

end Sys2Proof.Machine
end

section
/-! Saturating and fast arithmetic (rules R100 to R115): obligations O19 and O26 to O32. -/

namespace Sys2Proof.Machine

/-! ## A command's answer (rule R113) -/

/-- What an ending answers. -/
def Ending.answer : Ending → Response
  | .completed _ _ rdata => ⟨respOk, rdata⟩
  | .cleared => ⟨respOk, 0#64⟩
  | .raised c => ⟨c.code, 0#64⟩

theorem Ending.responses_after (e : Ending) (s : State) : (e.after s).responses = e.answer :: s.responses := by
  cases e <;> rfl

/-- What an ending sets `T` to does not depend on the state, for a command of rule R25. -/
theorem Ending.truth_after_of_writesTruth {e : Ending} {i : Instr} {s s' : State} (he : e.Permitted i)
    (hT : writesTruth i = true) : (e.after s).fstat.t = (e.after s').fstat.t := by
  cases e with
  | completed regs truth d =>
    obtain ⟨-, htruth⟩ := he
    obtain ⟨b, rfl⟩ := Option.isSome_iff_exists.1 (htruth.trans hT)
    rfl
  | cleared =>
    obtain rfl : i = .clrerr := he
    cases hT
  | raised c => exact absurd (hT.symm.trans he) Bool.true_eq_false.mp

/-- Settles O19: two states with the same sources have the same ending. -/
theorem resultDependsOnlyOnSources : Obligations.ResultDependsOnlyOnSources := by
  intro i s₁ s₂ hi hreads hissued
  have hsrc : SameSources i s₁ s₂ := ⟨fun r hr => (hreads r hr).symm, hissued.symm, fun h => absurd h hi⟩
  obtain ⟨e, hperm, he₁, he₂⟩ := exec_sameEnding hsrc
  refine ⟨_, _, e.answer, he₁, he₂, e.responses_after s₁, e.responses_after s₂, fun hok =>
    ⟨fun r hr => ?_, Ending.truth_after_of_writesTruth hperm⟩⟩
  have hresp : (e.after s₂).responses = ⟨respOk, e.answer.rdata⟩ :: s₂.responses := by
    rw [e.responses_after, ← hok]
  exact Ending.getF_after_of_mem_writes hperm hresp hr

/-! ## Clamping -/

theorem toInt_sat64_eq_clamp64 (z : Int) : (sat64 z).toInt = clamp64 z := by
  rw [toInt_sat64, clamp64]
  split_ifs <;> omega

theorem sat64_of_fits {z : Int} (h : FitsS64 z) : sat64 z = wrap64 z := sat64_eq_wrap64 h.1 h.2

/-- An integer outside the range is clamped to the bound on its side of 0. -/
theorem sat64_of_not_fits {z : Int} (h : ¬ FitsS64 z) : sat64 z = if 0 ≤ z then constMaxValue else constMinValue := by
  unfold FitsS64 at h
  by_cases hz : 0 ≤ z
  · rw [sat64, if_neg (by omega), if_pos (by omega), if_pos hz]
  · rw [sat64, if_pos (by omega), if_neg hz]

/-! ## Sums and differences (rules R100, R101, R108, R109) -/

theorem wrap64_add (a b : Scalar) : wrap64 (a.toInt + b.toInt) = a + b := by
  simp [wrap64, BitVec.ofInt_add]

theorem wrap64_sub (a b : Scalar) : wrap64 (a.toInt - b.toInt) = a - b := by
  simp [wrap64, sub_eq_add_neg, BitVec.ofInt_add, BitVec.ofInt_neg]

/-- The sign-bit test of rule R100 is the library's signed overflow of a sum. -/
theorem msb_add_test (a b : Scalar) : (~~~(a ^^^ b) &&& (a ^^^ (a + b))).msb = a.saddOverflow b := by
  rw [BitVec.saddOverflow_eq, BitVec.msb_and, BitVec.msb_not, BitVec.msb_xor, BitVec.msb_xor]
  cases a.msb <;> cases b.msb <;> cases (a + b).msb <;> rfl

/-- The sign-bit test of rule R101 is the library's signed overflow of a difference. -/
theorem msb_sub_test (a b : Scalar) : ((a ^^^ b) &&& (a ^^^ (a - b))).msb = a.ssubOverflow b := by
  rw [BitVec.ssubOverflow_eq, BitVec.msb_and, BitVec.msb_xor, BitVec.msb_xor]
  cases a.msb <;> cases b.msb <;> cases (a - b).msb <;> rfl

theorem saddOverflow_iff (a b : Scalar) : a.saddOverflow b = true ↔ ¬ FitsS64 (a.toInt + b.toInt) := by
  simp only [BitVec.saddOverflow, FitsS64, Bool.or_eq_true, decide_eq_true_eq]
  omega

theorem ssubOverflow_iff (a b : Scalar) : a.ssubOverflow b = true ↔ ¬ FitsS64 (a.toInt - b.toInt) := by
  simp only [BitVec.ssubOverflow, FitsS64, Bool.or_eq_true, decide_eq_true_eq]
  omega

/-- A result is clamped by the sign of the left operand when that is the side on which it leaves the range, and wraps
otherwise. -/
theorem sat64_eq_of_overflow {z : Int} {a : Scalar} {overflow : Bool} (ho : overflow = true ↔ ¬ FitsS64 z)
    (hsign : ¬ FitsS64 z → (0 ≤ z ↔ 0 ≤ a.toInt)) :
    sat64 z = if overflow then (if 0 ≤ a.toInt then constMaxValue else constMinValue) else wrap64 z := by
  by_cases hz : FitsS64 z
  · rw [if_neg (fun h => ho.1 h hz), sat64_of_fits hz]
  · simp only [if_pos (ho.2 hz), sat64_of_not_fits hz, hsign hz]

namespace Fix

theorem add_eq_of_overflow_test (a b : Scalar) :
    add a b = if (~~~(a ^^^ b) &&& (a ^^^ (a + b))).msb
      then (if 0 ≤ a.toInt then constMaxValue else constMinValue) else a + b := by
  have hsign : ¬ FitsS64 (a.toInt + b.toInt) → (0 ≤ a.toInt + b.toInt ↔ 0 ≤ a.toInt) := by
    have ha := scalar_range a
    have hb := scalar_range b
    unfold FitsS64
    omega
  rw [msb_add_test, ← wrap64_add]
  exact sat64_eq_of_overflow (saddOverflow_iff a b) hsign

theorem sub_eq_of_overflow_test (a b : Scalar) :
    sub a b = if ((a ^^^ b) &&& (a ^^^ (a - b))).msb
      then (if 0 ≤ a.toInt then constMaxValue else constMinValue) else a - b := by
  have hsign : ¬ FitsS64 (a.toInt - b.toInt) → (0 ≤ a.toInt - b.toInt ↔ 0 ≤ a.toInt) := by
    have ha := scalar_range a
    have hb := scalar_range b
    unfold FitsS64
    omega
  rw [msb_sub_test, ← wrap64_sub]
  exact sat64_eq_of_overflow (ssubOverflow_iff a b) hsign

end Fix

/-- Settles O26: both commands narrow by `sat64`, which is the clamp and is what the overflow tests give. -/
theorem saturatingAddAndSubtract : Obligations.SaturatingAddAndSubtract := fun _ _ _ _ =>
  ⟨⟨_, writesScalarBy_of_complete rfl, toInt_sat64_eq_clamp64 _, Fix.add_eq_of_overflow_test _ _⟩,
    ⟨_, writesScalarBy_of_complete rfl, toInt_sat64_eq_clamp64 _, Fix.sub_eq_of_overflow_test _ _⟩⟩

/-! ## Products (rules R102, R110) -/

/-- The low half of a scalar is read unsigned and the high half signed. -/
theorem toInt_eq_halves (a : Scalar) : a.toInt = a.toInt / 2 ^ 32 * 2 ^ 32 + (a.toNat % 2 ^ 32 : Nat) := by
  have h := BitVec.toInt_eq_toNat_cond a
  split_ifs at h <;> omega

/-- The four cross products of rule R102: all but the one of the low halves are multiples of `2^32`. -/
theorem product_of_halves (ahi alo bhi blo : Int) :
    (ahi * 2 ^ 32 + alo) * (bhi * 2 ^ 32 + blo) / 2 ^ 32 =
      ahi * bhi * 2 ^ 32 + alo * bhi + ahi * blo + alo * blo / 2 ^ 32 := by
  have hsplit : (ahi * 2 ^ 32 + alo) * (bhi * 2 ^ 32 + blo) =
      alo * blo + 2 ^ 32 * (ahi * bhi * 2 ^ 32 + alo * bhi + ahi * blo) := by ring
  rw [hsplit, Int.add_mul_ediv_left _ _ (by norm_num), add_comm]

/-- Settles O27: each operand is its halves, so the product is the four cross products. -/
theorem saturatingMultiply : Obligations.SaturatingMultiply := by
  intro s rd ra rb
  refine ⟨_, _, _, _, _, rfl, rfl, rfl, rfl, writesScalarBy_of_complete rfl, toInt_sat64_eq_clamp64 _, ?_⟩
  conv_lhs => rw [toInt_eq_halves (s.getF ra), toInt_eq_halves (s.getF rb)]
  exact product_of_halves _ _ _ _

/-- Bits 95 to 32 of the 128-bit product (rule R110). -/
theorem wrap64_product (a b : Scalar) :
    wrap64 (Fix.product a b) = (a.signExtend 128 * b.signExtend 128).extractLsb' 32 64 := by
  have hmul : a.signExtend 128 * b.signExtend 128 = BitVec.ofInt 128 (a.toInt * b.toInt) := (BitVec.ofInt_mul _ _).symm
  rw [hmul, wrap64, Fix.product]
  apply BitVec.eq_of_toNat_eq
  rw [BitVec.extractLsb'_toNat, BitVec.toNat_ofInt, BitVec.toNat_ofInt, Nat.shiftRight_eq_div_pow]
  generalize a.toInt * b.toInt = z
  omega

/-! ## Quotients (rule R103) -/

theorem toInt_ne_zero {a : Scalar} (h : a ≠ 0#64) : a.toInt ≠ 0 := BitVec.toInt_ne.2 h

/-- Adding 1 to the quotient with one extra bit and dropping the bit rounds to nearest, ties upward. -/
theorem roundedHalf_bounds (n : Nat) {d : Nat} (hd : 0 < d) {m : Nat} (hm : m = (n / d + 1) / 2) :
    ((2 * m : Nat) : Int) * d - d ≤ n ∧ n < (2 * m + 1) * d := by
  have hlo : (2 * m : Nat) ≤ n / d + 1 := by omega
  have hhi : n / d < 2 * m + 1 := by omega
  constructor
  · have h : 2 * m * d ≤ n + d := calc
      2 * m * d ≤ (n / d + 1) * d := Nat.mul_le_mul_right d hlo
      _ = n / d * d + d := by ring
      _ ≤ n + d := Nat.add_le_add_right (Nat.div_mul_le_self n d) d
    zify at h
    push_cast
    linarith
  · exact (Nat.div_lt_iff_lt_mul hd).1 hhi

namespace Fix

/-- The signed quotient of rule R103 has the magnitude of the rounded one, and is negative when the signs differ. -/
theorem quotient_eq_ite (a b : Scalar) :
    quotient a b = if a.toInt < 0 ↔ b.toInt < 0
      then (((a.toInt.natAbs * 2 ^ 33 / b.toInt.natAbs + 1) / 2 : Nat) : Int)
      else -(((a.toInt.natAbs * 2 ^ 33 / b.toInt.natAbs + 1) / 2 : Nat) : Int) := by
  split_ifs with h <;> simp [quotient, h]

end Fix

/-- Settles O28: the magnitude is the quotient with one extra bit, rounded half up. -/
theorem saturatingDivide : Obligations.SaturatingDivide := by
  intro s rd ra rb
  refine ⟨fun hb => raises_of_finish rfl (hb ▸ Fix.div_zero _), fun hb => ?_⟩
  have hpos : 0 < (s.getF rb).toInt.natAbs := Int.natAbs_pos.2 (toInt_ne_zero hb)
  obtain ⟨hlo, hhi⟩ := roundedHalf_bounds ((s.getF ra).toInt.natAbs * 2 ^ 33) hpos rfl
  refine ⟨_, _, writesScalarBy_of_finish rfl (Fix.div_of_ne _ hb), mod_cast hlo, hhi, ?_⟩
  rw [toInt_sat64_eq_clamp64, Fix.quotient_eq_ite]

/-! ## Remainders (rules R104, R111) -/

theorem isTruncatedRemainder_tmod (a : Int) {b : Int} (hb : b ≠ 0) : IsTruncatedRemainder a b (a.tmod b) where
  left := ⟨a.tdiv b, (Int.mul_tdiv_add_tmod a b).symm⟩
  right := by
    refine ⟨?_, Int.tmod_nonneg b, fun ha => ?_⟩
    · rw [Int.natAbs_tmod]
      exact Nat.mod_lt _ (Int.natAbs_pos.2 hb)
    · have h := Int.tmod_nonneg b (neg_nonneg.2 ha)
      rw [Int.neg_tmod] at h
      omega

/-- A remainder is smaller than a scalar divisor, so nothing is lost in narrowing it. -/
theorem toInt_wrap64_tmod (a : Int) {b : Scalar} (hb : b ≠ 0#64) :
    (wrap64 (a.tmod b.toInt)).toInt = a.tmod b.toInt := by
  obtain ⟨-, hlt, -⟩ := isTruncatedRemainder_tmod a (toInt_ne_zero hb)
  have hrange := scalar_range b
  exact toInt_wrap64 (by omega) (by omega)

theorem writesScalar_mod (s : State) (rd ra : Reg) {rb : Reg} (hb : s.getF rb ≠ 0#64) :
    ∃ v, WritesScalar (.mod rd ra rb) s rd v ∧
      IsTruncatedRemainder (s.getF ra).toInt (s.getF rb).toInt v.toInt := by
  refine ⟨_, writesScalarBy_of_finish rfl (Fix.mod_of_ne _ hb), ?_⟩
  rw [toInt_wrap64_tmod _ hb]
  exact isTruncatedRemainder_tmod _ (toInt_ne_zero hb)

/-- Settles O29: the remainder fits, so it is written as it is. -/
theorem modulusIsTheTruncatedRemainder : Obligations.ModulusIsTheTruncatedRemainder := fun s rd ra _ =>
  ⟨fun hb => raises_of_finish rfl (hb ▸ Fix.mod_zero _), writesScalar_mod s rd ra⟩

/-- The operand pairs on which `FMOD` raises (rule R111). -/
def BadFastModulus (a b : Scalar) : Prop :=
  b = 0#64 ∨ (a = 0x8000000000000000#64 ∧ b = 0xFFFFFFFFFFFFFFFF#64)

namespace Fix

theorem fmod_of_bad {a b : Scalar} (h : BadFastModulus a b) : fmod a b = .error .fastFault := by
  obtain rfl | ⟨rfl, rfl⟩ := h
  · exact if_pos rfl
  · decide

theorem fmod_eq_mod {a b : Scalar} (h : ¬ BadFastModulus a b) : fmod a b = mod a b := by
  obtain ⟨hb, hab⟩ := not_or.1 h
  have hmin : ¬ (a = constMinValue ∧ b.toInt = -1) := fun ⟨ha, hb⟩ => hab ⟨ha, BitVec.eq_of_toInt_eq hb⟩
  rw [mod_of_ne a hb, fmod, if_neg hb, if_neg hmin]

end Fix

/-- Settles O32: but for the two pairs `FMOD` ends as `MOD` does. -/
theorem fastModulus : Obligations.FastModulus := by
  refine fun s rd ra rb => ⟨fun h => raises_of_finish rfl (Fix.fmod_of_bad h), fun h => ?_⟩
  have heq : exec (.fmod rd ra rb) s = exec (.mod rd ra rb) s :=
    congrArg (finishScalar rd · s) (Fix.fmod_eq_mod h)
  obtain ⟨v, ⟨t, ⟨ht, hport⟩, hregs⟩, hv⟩ := writesScalar_mod s rd ra (not_or.1 h).1
  exact ⟨heq, v, ⟨t, ⟨heq.trans ht, hport⟩, hregs⟩, hv⟩

/-! ## Negation, absolute value, sign (rules R105, R106, R107, R112) -/

theorem toInt_sign (a : Scalar) : (Fix.sign a).toInt = a.toInt.sign * 2 ^ 32 := by
  obtain h | h | h := lt_trichotomy a.toInt 0
  · rw [Fix.sign, if_neg (by omega), if_pos h, Int.sign_eq_neg_one_of_neg h]
    rfl
  · rw [Fix.sign, if_neg (by omega), if_neg (by omega), h]
    rfl
  · rw [Fix.sign, if_pos h, Int.sign_eq_one_of_pos h]
    rfl

/-- Settles O30: two clamps, and the sign case by case. -/
theorem negateAbsoluteSign : Obligations.NegateAbsoluteSign := fun _ _ _ =>
  ⟨⟨_, writesScalarBy_of_complete rfl, toInt_sat64_eq_clamp64 _⟩,
    ⟨_, writesScalarBy_of_complete rfl, toInt_sat64_eq_clamp64 _⟩,
    ⟨_, writesScalarBy_of_complete rfl, toInt_sign _⟩⟩

theorem wrap64_natAbs (a : Scalar) : wrap64 (a.toInt.natAbs : Int) = if a.msb then -a else a := by
  cases h : a.msb with
  | true =>
    rw [Int.ofNat_natAbs_of_nonpos (BitVec.toInt_neg_of_msb_true h).le, wrap64, BitVec.ofInt_neg, BitVec.ofInt_toInt]
    rfl
  | false =>
    rw [Int.natAbs_of_nonneg (BitVec.toInt_nonneg_of_msb_false h), wrap64, BitVec.ofInt_toInt]
    rfl

/-- The one absolute value out of range is that of `MinValue`. -/
theorem fitsS64_natAbs {a : Scalar} (h : a ≠ constMinValue) : FitsS64 (a.toInt.natAbs : Int) := by
  have hmin : a.toInt ≠ -2 ^ 63 := fun e => h (BitVec.eq_of_toInt_eq e)
  have ha := scalar_range a
  unfold FitsS64
  omega

/-! ## Fast commands and their twins (rule R114) -/

/-- A fast command that wraps and its twin that clamps end alike when the result fits. -/
theorem complete_wrap64_eq_sat64 (s : State) (rd : Reg) {z : Int} (h : FitsS64 z) :
    complete (s.setF rd (wrap64 z)) = complete (s.setF rd (sat64 z)) := by rw [sat64_of_fits h]

/-- Settles O31: the wrapped values are word operations, and the four pairs of twins differ in narrowing only. -/
theorem fastCommandsWrapAndAgreeWithTheirTwins : Obligations.FastCommandsWrapAndAgreeWithTheirTwins := fun s rd ra rb =>
  ⟨wrap64_add (s.getF ra) (s.getF rb) ▸ writesScalarBy_of_complete rfl,
    wrap64_sub (s.getF ra) (s.getF rb) ▸ writesScalarBy_of_complete rfl,
    wrap64_product (s.getF ra) (s.getF rb) ▸ writesScalarBy_of_complete rfl,
    wrap64_natAbs (s.getF ra) ▸ writesScalarBy_of_complete rfl,
    complete_wrap64_eq_sat64 s rd, complete_wrap64_eq_sat64 s rd, complete_wrap64_eq_sat64 s rd,
    fun h => complete_wrap64_eq_sat64 s rd (fitsS64_natAbs h)⟩

end Sys2Proof.Machine
end

section
/-! Rounding, the fraction and the comparisons (rules R130 to R141): obligations O33 to O36. -/

namespace Sys2Proof.Machine

/-! ## Comparison (rules R135 to R141) -/

theorem truthEq_eq (a b : Scalar) : truthEq a b = decide (a = b) := beq_eq_decide ..

theorem truthNe_eq (a b : Scalar) : truthNe a b = decide (a ≠ b) := by
  rw [truthNe, bne, beq_eq_decide, decide_not]

theorem truthLe_eq_not_truthGt (a b : Scalar) : truthLe a b = !truthGt a b := by
  rw [truthLe, truthGt, ← decide_not, decide_eq_decide]
  exact Int.not_lt.symm

theorem truthGe_eq_not_truthLt (a b : Scalar) : truthGe a b = !truthLt a b := truthLe_eq_not_truthGt b a

/-- The signed order is total on the raw values (rule R141). -/
theorem toInt_trichotomy (a b : Scalar) : a.toInt < b.toInt ∨ a = b ∨ b.toInt < a.toInt := by
  rw [← BitVec.toInt_inj]
  exact lt_trichotomy _ _

/-- Settles O36: `CMPLE` and `CMPGE` negate `CMPGT` and `CMPLT`; the other four are their definitions. -/
theorem comparisonsAreSignedAndExact : Obligations.ComparisonsAreSignedAndExact := fun s ra rb =>
  ⟨truthEq_eq (s.getF ra) (s.getF rb) ▸ writesTruth_of_finish rfl,
    truthNe_eq (s.getF ra) (s.getF rb) ▸ writesTruth_of_finish rfl,
    writesTruth_of_finish rfl,
    writesTruth_of_finish rfl,
    truthLe_eq_not_truthGt (s.getF ra) (s.getF rb) ▸ writesTruth_of_finish rfl,
    truthGe_eq_not_truthLt (s.getF ra) (s.getF rb) ▸ writesTruth_of_finish rfl,
    toInt_trichotomy _ _⟩

namespace Fix

/-! ## The integer part and the fraction (rules R130, R133, R134) -/

theorem toNat_fr (a : Scalar) : ((fr a).toNat : Int) = a.toInt % 2 ^ 32 := by
  have hmask : (fr a).toNat = a.toNat % 2 ^ 32 := by
    rw [fr, BitVec.toNat_and]
    exact Nat.and_two_pow_sub_one_eq_mod _ 32
  have hhalves := toInt_eq_halves a
  omega

theorem toInt_fr (a : Scalar) : (fr a).toInt = a.toInt % 2 ^ 32 := by
  have hfr := toNat_fr a
  rw [BitVec.toInt_eq_toNat_of_lt] <;> omega

theorem fr_eq_zero_iff (a : Scalar) : fr a = 0#64 ↔ a.toInt % 2 ^ 32 = 0 := by
  rw [← toInt_fr, ← BitVec.toInt_inj]
  rfl

/-- The two parts share no bit and have every bit between them. -/
theorem toNat_ip_add_toNat_fr (a : Scalar) : (ip a).toNat + (fr a).toNat = a.toNat := by
  have hdisjoint : ip a &&& fr a = 0#64 := by
    calc a &&& 0xFFFFFFFF00000000#64 &&& (a &&& 0x00000000FFFFFFFF#64)
      _ = a &&& a &&& (0xFFFFFFFF00000000#64 &&& 0x00000000FFFFFFFF#64) := by ac_rfl
      _ = 0#64 := by simp
  have hsum : ip a + fr a = a := by
    rw [BitVec.add_eq_or_of_and_eq_zero _ _ hdisjoint, ip, fr, ← BitVec.and_or_distrib_left]
    exact BitVec.and_allOnes
  rw [← BitVec.toNat_add_of_and_eq_zero hdisjoint, hsum]

theorem toInt_ip (a : Scalar) : (ip a).toInt = a.toInt / 2 ^ 32 * 2 ^ 32 := by
  have hparts := toNat_ip_add_toNat_fr a
  have hfr := toNat_fr a
  have ha := BitVec.toInt_eq_toNat_cond a
  have hip := BitVec.toInt_eq_toNat_cond (ip a)
  split_ifs at ha hip <;> omega

theorem getLsbD_32_iff (a : Scalar) : a.getLsbD 32 = true ↔ a.toInt / 2 ^ 32 % 2 = 1 := by
  have ha := BitVec.toInt_eq_toNat_cond a
  rw [BitVec.getLsbD, Nat.testBit_eq_decide_div_mod_eq, decide_eq_true_iff]
  split_ifs at ha <;> omega

/-! ## Rounding to an integer (rules R130 to R132) -/

theorem ip_dvd_and_bounds (a : Scalar) :
    (2 ^ 32 : Int) ∣ (ip a).toInt ∧ (ip a).toInt ≤ a.toInt ∧ a.toInt < (ip a).toInt + 2 ^ 32 := by
  have hip := toInt_ip a
  exact ⟨⟨_, by rw [hip, mul_comm]⟩, by omega, by omega⟩

theorem toInt_ip_eq_clamp64 (a : Scalar) : (ip a).toInt = clamp64 (a.toInt / 2 ^ 32 * 2 ^ 32) := by
  have hrange := scalar_range a
  rw [toInt_ip, clamp64]
  omega

/-- The next integer up, saturating through `ADD` (rules R131, R132). -/
theorem toInt_add_ip_one (a : Scalar) : (add (ip a) constOne).toInt = clamp64 ((a.toInt / 2 ^ 32 + 1) * 2 ^ 32) := by
  have hone : constOne.toInt = 2 ^ 32 := by decide
  rw [add, toInt_sat64_eq_clamp64, toInt_ip, hone, add_mul, one_mul]

theorem toInt_ceil (a : Scalar) : (ceil a).toInt = clamp64 ((a.toInt + (2 ^ 32 - 1)) / 2 ^ 32 * 2 ^ 32) := by
  by_cases hfr : fr a = 0#64
  · have hmod := (fr_eq_zero_iff a).1 hfr
    have hrange := scalar_range a
    rw [ceil, if_pos hfr, clamp64]
    omega
  · have hmod := mt (fr_eq_zero_iff a).2 hfr
    have hup : (a.toInt + (2 ^ 32 - 1)) / 2 ^ 32 = a.toInt / 2 ^ 32 + 1 := by omega
    rw [ceil, if_neg hfr, toInt_add_ip_one, hup]

/-- `m` is the integer nearest to `z / 2^32`, the even one of two that are equally near (rule R132). -/
def IsNearestEven (z m : Int) : Prop :=
  (2 * (z - m * 2 ^ 32)).natAbs ≤ 2 ^ 32 ∧ ((2 * (z - m * 2 ^ 32)).natAbs = 2 ^ 32 → m % 2 = 0)

theorem isNearestEven_floor {z : Int} (h : z % 2 ^ 32 < 2 ^ 31 ∨ z % 2 ^ 32 = 2 ^ 31 ∧ z / 2 ^ 32 % 2 ≠ 1) :
    IsNearestEven z (z / 2 ^ 32) := by
  constructor <;> omega

theorem isNearestEven_floor_add_one {z : Int} (h : 2 ^ 31 < z % 2 ^ 32 ∨ z % 2 ^ 32 = 2 ^ 31 ∧ z / 2 ^ 32 % 2 = 1) :
    IsNearestEven z (z / 2 ^ 32 + 1) := by
  constructor <;> omega

/-- The four arms of rule R132: below half, above half, and a half with an odd and with an even integer part. -/
theorem toInt_round (a : Scalar) : ∃ m, IsNearestEven a.toInt m ∧ (round a).toInt = clamp64 (m * 2 ^ 32) := by
  have hfr := toNat_fr a
  unfold round
  split_ifs with hbelow habove hodd
  · exact ⟨_, isNearestEven_floor (.inl (by omega)), toInt_ip_eq_clamp64 a⟩
  · exact ⟨_, isNearestEven_floor_add_one (.inl (by omega)), toInt_add_ip_one a⟩
  · exact ⟨_, isNearestEven_floor_add_one (.inr ⟨by omega, (getLsbD_32_iff a).1 hodd⟩), toInt_add_ip_one a⟩
  · exact ⟨_, isNearestEven_floor (.inr ⟨by omega, mt (getLsbD_32_iff a).2 hodd⟩), toInt_ip_eq_clamp64 a⟩

theorem hasFrac_eq (a : Scalar) : hasFrac a = decide (a.toInt % 2 ^ 32 ≠ 0) :=
  (truthNe_eq (fr a) 0#64).trans (decide_eq_decide.2 (not_congr (fr_eq_zero_iff a)))

/-- Rule R131: only an operand above the greatest integer-valued scalar is clamped. -/
theorem ceil_spec (a : Scalar) :
    (a.toInt > 0x7FFFFFFF00000000 → ceil a = constMaxValue) ∧
    (a.toInt ≤ 0x7FFFFFFF00000000 → (2 ^ 32 : Int) ∣ (ceil a).toInt ∧ a.toInt ≤ (ceil a).toInt ∧
      (ceil a).toInt < a.toInt + 2 ^ 32) := by
  have hceil := toInt_ceil a
  have hrange := scalar_range a
  unfold clamp64 at hceil
  refine ⟨fun h => BitVec.eq_of_toInt_eq ?_, fun h => by omega⟩
  have hmax : constMaxValue.toInt = 2 ^ 63 - 1 := by decide
  omega

end Fix

/-- Settles O33: `FLOOR` keeps the integer part, and `CEIL` is the clamped multiple of `2^32` above. -/
theorem floorAndCeiling : Obligations.FloorAndCeiling := fun _ _ _ =>
  ⟨⟨_, writesScalarBy_of_complete rfl, rfl, Fix.ip_dvd_and_bounds _⟩,
    ⟨_, writesScalarBy_of_complete rfl, Fix.ceil_spec _⟩⟩

/-- Settles O34: the integer below or the one above, by the fraction and then by the parity. -/
theorem roundHalfToEven : Obligations.RoundHalfToEven := by
  intro s rd ra
  obtain ⟨m, ⟨hnear, heven⟩, hround⟩ := Fix.toInt_round (s.getF ra)
  exact ⟨_, m, writesScalarBy_of_complete rfl, hnear, heven, hround⟩

/-- Settles O35: the low 32 bits are the residue modulo `2^32`. -/
theorem fractionAndItsTest : Obligations.FractionAndItsTest := fun s _ ra =>
  ⟨⟨_, writesScalarBy_of_complete rfl, Fix.toInt_fr _⟩, Fix.hasFrac_eq (s.getF ra) ▸ writesTruth_of_finish rfl⟩

end Sys2Proof.Machine
end

section
/-! Square root and logarithm (rules R150 to R152): obligations O37 to O39. -/

namespace Sys2Proof.Machine

namespace Fix

/-! ## The square root (rule R150) -/

/-- Each pass halves the interval `[r, r + 2^k)` that holds the root. -/
theorem rootBits_eq_sqrt {n : Nat} (k : Nat) :
    ∀ {r : Nat}, r * r ≤ n → n < (r + 2 ^ k) * (r + 2 ^ k) → rootBits n k r = n.sqrt := by
  induction k with
  | zero => exact fun hlo hhi => Nat.eq_sqrt.2 ⟨hlo, hhi⟩
  | succ k ih =>
    intro r hlo hhi
    rw [pow_succ, mul_two, ← add_assoc] at hhi
    rw [rootBits]
    split_ifs with hbit
    · exact ih hbit hhi
    · exact ih hlo (not_le.1 hbit)

theorem floorSqrt_eq_sqrt {n : Nat} (h : n < 2 ^ 96) : floorSqrt n = n.sqrt :=
  rootBits_eq_sqrt 48 n.zero_le (by omega)

/-- The integer nearest to the root of `n`. -/
def nearestRoot (n : Nat) : Nat := if n - n.sqrt * n.sqrt > n.sqrt then n.sqrt + 1 else n.sqrt

theorem le_nearestRoot_mul_succ (n : Nat) : n ≤ nearestRoot n * (nearestRoot n + 1) := by
  have hlt : n < (n.sqrt + 1) * (n.sqrt + 1) := Nat.lt_succ_sqrt n
  unfold nearestRoot
  split_ifs with hup
  · nlinarith
  · rw [mul_add]
    omega

theorem nearestRoot_mul_self_lt (n : Nat) : nearestRoot n = 0 ∨ nearestRoot n * nearestRoot n < n + nearestRoot n := by
  have hle := Nat.sqrt_le n
  unfold nearestRoot
  split_ifs with hup
  · right
    rw [add_mul, mul_add]
    omega
  · omega

/-- `0x0000B504F333F9DE` is the root of `MaxValue`. -/
theorem nearestRoot_le {n : Nat} (h : n ≤ (2 ^ 63 - 1) * 2 ^ 32) : nearestRoot n ≤ 0x0000B504F333F9DE := by
  by_contra! hgt
  rcases nearestRoot_mul_self_lt n with h0 | hlt
  · omega
  · have hmul := Nat.mul_le_mul_right (nearestRoot n) hgt
    omega

theorem sqrt_of_nonneg {a : Scalar} (h : 0 ≤ a.toInt) :
    sqrt a = .ok (wrap64 (nearestRoot (a.toInt.toNat * 2 ^ 32))) := by
  have hrange := scalar_range a
  simp only [sqrt, if_neg (not_lt.2 h)]
  rw [floorSqrt_eq_sqrt (by omega), nearestRoot]

end Fix

/-- Settles O37: the root of the magnitude times `2^32`, rounded up when the remainder exceeds it. -/
theorem squareRootIsTheNearestRoot : Obligations.SquareRootIsTheNearestRoot := by
  refine fun s rd ra => ⟨fun h => raises_of_finish rfl (Fix.sqrt_of_neg h), fun h => ?_⟩
  have hrange := scalar_range (s.getF ra)
  obtain ⟨n, hn⟩ : ∃ n : Nat, n = (s.getF ra).toInt.toNat * 2 ^ 32 := ⟨_, rfl⟩
  have hmax := Fix.nearestRoot_le (n := n) (by omega)
  have hle := Fix.le_nearestRoot_mul_succ n
  have hlt := Fix.nearestRoot_mul_self_lt n
  have hn' : (s.getF ra).toInt * 2 ^ 32 = n := by omega
  refine ⟨_, writesScalarBy_of_finish rfl (Fix.sqrt_of_nonneg h), ?_⟩
  rw [← hn, hn', toInt_wrap64 (by omega) (by omega), mul_sub_one]
  zify at hle hlt
  exact ⟨by omega, by omega, hle, hlt.imp_right sub_lt_iff_lt_add.2⟩

/-! ## The logarithm (rule R151) -/

namespace Fix

theorem toInt_constOne : constOne.toInt = 2 ^ 32 := by decide

theorem toInt_constTwo : constTwo.toInt = 2 ^ 33 := by decide

/-! ### Normalisation into `[One, Two)` -/

theorem scaleUp_of_one_le {z : Scalar} (h : 2 ^ 32 ≤ z.toInt) (fuel : Nat) (y : Int) : scaleUp fuel z y = (z, y) := by
  cases fuel with
  | zero => rfl
  | succ fuel => rw [scaleUp, if_neg (by rw [toInt_constOne]; omega)]

theorem scaleDown_of_lt_two {z : Scalar} (h : z.toInt < 2 ^ 33) (fuel : Nat) (y : Int) :
    scaleDown fuel z y = (z, y) := by
  cases fuel with
  | zero => rfl
  | succ fuel => rw [scaleDown, if_neg (by rw [toInt_constTwo]; omega)]

/-- The number of shifts is the `j` that brings `z` into `[One, Two)`. -/
theorem scaleUp_spec (j : Nat) : ∀ {fuel : Nat} {z : Scalar} {y : Int}, j ≤ fuel →
    2 ^ 32 ≤ z.toInt * 2 ^ j → z.toInt * 2 ^ j < 2 ^ 33 →
    (scaleUp fuel z y).1.toInt = z.toInt * 2 ^ j ∧ (scaleUp fuel z y).2 = y - j * 2 ^ 32 := by
  induction j with
  | zero =>
    intro fuel z y _ hlo _
    rw [scaleUp_of_one_le (by omega)]
    simp
  | succ j ih =>
    intro fuel z y hfuel hlo hhi
    obtain ⟨fuel, rfl⟩ := Nat.exists_eq_add_of_le' (Nat.one_le_of_lt hfuel)
    have hpow : (1 : Int) ≤ 2 ^ j := one_le_pow₀ (by norm_num)
    rw [pow_succ' 2 j] at hlo hhi ⊢
    have hpos : 0 < z.toInt := pos_of_mul_pos_left (by omega : 0 < z.toInt * (2 * 2 ^ j)) (by omega)
    have hz : z.toInt < 2 ^ 32 := by nlinarith
    have hdouble : (wrap64 (z.toInt * 2)).toInt = z.toInt * 2 := toInt_wrap64 (by omega) (by omega)
    obtain ⟨hw, hy⟩ := @ih fuel (wrap64 (z.toInt * 2)) (y - constOne.toInt) (by omega)
      (by rwa [hdouble, mul_assoc]) (by rwa [hdouble, mul_assoc])
    rw [scaleUp, if_pos (by rw [toInt_constOne]; exact hz), hw, hy, hdouble, toInt_constOne]
    constructor <;> push_cast <;> ring

theorem toInt_sshiftRight_one (z : Scalar) : (z.sshiftRight 1).toInt = z.toInt / 2 := by
  rw [BitVec.toInt_sshiftRight, Int.shiftRight_eq_div_pow]
  rfl

theorem scaleDown_spec (j : Nat) : ∀ {fuel : Nat} {z : Scalar} {y : Int}, j ≤ fuel →
    2 ^ 32 * 2 ^ j ≤ z.toInt → z.toInt < 2 ^ 33 * 2 ^ j →
    (scaleDown fuel z y).1.toInt = z.toInt / 2 ^ j ∧ (scaleDown fuel z y).2 = y + j * 2 ^ 32 := by
  induction j with
  | zero =>
    intro fuel z y _ _ hhi
    rw [scaleDown_of_lt_two (by omega)]
    simp
  | succ j ih =>
    intro fuel z y hfuel hlo hhi
    obtain ⟨fuel, rfl⟩ := Nat.exists_eq_add_of_le' (Nat.one_le_of_lt hfuel)
    have hpow : (1 : Int) ≤ 2 ^ j := one_le_pow₀ (by norm_num)
    have hhalf := toInt_sshiftRight_one z
    rw [pow_succ] at hlo hhi
    obtain ⟨hw, hy⟩ := @ih fuel (z.sshiftRight 1) (y + constOne.toInt) (by omega) (by omega) (by omega)
    rw [scaleDown, if_pos (by rw [toInt_constTwo]; omega), hw, hy, hhalf, toInt_constOne,
      Int.ediv_ediv_of_nonneg (by norm_num), pow_succ']
    refine ⟨rfl, ?_⟩
    push_cast
    ring

theorem exponent_lt_of_two_pow_le {a : Scalar} {k : Nat} (h : 2 ^ k ≤ a.toInt) : k < 63 := by
  have hrange := scalar_range a
  exact (pow_lt_pow_iff_right₀ (by norm_num : (1 : Int) < 2)).1 (by omega)

/-- The two loops of rule R151 on an operand in `[2^k, 2^(k+1))`: at most one of them shifts. -/
theorem normalise_spec {a : Scalar} {k : Nat} (hlo : 2 ^ k ≤ a.toInt) (hhi : a.toInt < 2 ^ (k + 1)) :
    (scaleDown 32 (scaleUp 32 a 0).1 (scaleUp 32 a 0).2).1.toInt = a.toInt * 2 ^ 32 / 2 ^ k ∧
    (scaleDown 32 (scaleUp 32 a 0).1 (scaleUp 32 a 0).2).2 = ((k : Int) - 32) * 2 ^ 32 := by
  have hk := exponent_lt_of_two_pow_le hlo
  rw [pow_succ] at hhi
  rcases le_total k 32 with hk32 | hk32
  · have hscale : (2 : Int) ^ 32 = 2 ^ (32 - k) * 2 ^ k := (pow_sub_mul_pow 2 hk32).symm
    have hpos : (0 : Int) < 2 ^ (32 - k) := by positivity
    obtain ⟨hz, hy⟩ := scaleUp_spec (fuel := 32) (z := a) (y := 0) (32 - k) (by omega) (by nlinarith) (by nlinarith)
    rw [scaleDown_of_lt_two (by rw [hz]; nlinarith), hz, hy, hscale, ← mul_assoc, Int.mul_ediv_cancel _ (by positivity),
      ← hscale]
    exact ⟨rfl, by push_cast [hk32]; ring⟩
  · obtain ⟨j, rfl⟩ := Nat.exists_eq_add_of_le hk32
    rw [pow_add] at hlo hhi ⊢
    have hpow : (1 : Int) ≤ 2 ^ j := one_le_pow₀ (by norm_num)
    obtain ⟨hz, hy⟩ := scaleDown_spec (fuel := 32) (z := a) (y := 0) j (by omega) hlo (by omega)
    rw [scaleUp_of_one_le (by omega), hz, hy, mul_comm a.toInt, Int.mul_ediv_mul_of_pos _ _ (by norm_num)]
    exact ⟨rfl, by push_cast; ring⟩

/-! ### The fractional bits -/

/-- The square of `z`, as `FMUL` gives it. -/
def logSquare (z : Int) : Int := z * z / 2 ^ 32

/-- `z` before pass `n` of rule R151, on integers. -/
def logMantissa (z : Int) : Nat → Int
  | 0 => z
  | n + 1 =>
    if 2 * 2 ^ 32 ≤ logSquare (logMantissa z n) then logSquare (logMantissa z n) / 2 else logSquare (logMantissa z n)

/-- `y` before pass `n`, less the exponent: the bits extracted so far. -/
def logFraction (z : Int) : Nat → Int
  | 0 => 0
  | n + 1 => logFraction z n + if 2 * 2 ^ 32 ≤ logSquare (logMantissa z n) then 2 ^ (31 - n) else 0

theorem logPass_of_two_le {z : Int} {n : Nat} (h : 2 * 2 ^ 32 ≤ logSquare (logMantissa z n)) :
    logMantissa z (n + 1) = logSquare (logMantissa z n) / 2 ∧ logFraction z (n + 1) = logFraction z n + 2 ^ (31 - n) := by
  rw [logMantissa, logFraction, if_pos h, if_pos h]
  exact ⟨rfl, rfl⟩

theorem logPass_of_lt_two {z : Int} {n : Nat} (h : logSquare (logMantissa z n) < 2 * 2 ^ 32) :
    logMantissa z (n + 1) = logSquare (logMantissa z n) ∧ logFraction z (n + 1) = logFraction z n := by
  rw [logMantissa, logFraction, if_neg (not_le.2 h), if_neg (not_le.2 h)]
  exact ⟨rfl, add_zero _⟩

theorem logFraction_range (z : Int) {n : Nat} (hn : n ≤ 32) :
    0 ≤ logFraction z n ∧ logFraction z n ≤ 2 ^ 32 - 2 ^ (32 - n) := by
  induction n with
  | zero => exact ⟨le_rfl, le_rfl⟩
  | succ n ih =>
    have hweight : (2 : Int) ^ (32 - n) = 2 ^ (31 - n) * 2 := by rw [← pow_succ, show 31 - n + 1 = 32 - n by omega]
    have hpos : (0 : Int) < 2 ^ (31 - n) := by positivity
    have hih := ih (by omega)
    rw [hweight] at hih
    rw [logFraction, show 32 - (n + 1) = 31 - n by omega]
    split_ifs <;> omega

section Passes

variable {z : Int} (hz : 2 ^ 32 ≤ z ∧ z < 2 ^ 33)

include hz

theorem logSquare_range : 2 ^ 32 ≤ logSquare z ∧ logSquare z < 2 ^ 34 := by
  obtain ⟨hlo, hhi⟩ := hz
  rw [logSquare, Int.le_ediv_iff_mul_le (by norm_num), Int.ediv_lt_iff_lt_mul (by norm_num)]
  constructor <;> nlinarith

theorem logMantissa_range (n : Nat) : 2 ^ 32 ≤ logMantissa z n ∧ logMantissa z n < 2 ^ 33 := by
  induction n with
  | zero => exact hz
  | succ n ih =>
    have hsq := logSquare_range ih
    rw [logMantissa]
    split_ifs <;> omega

/-- From pass `n` on the loop runs through the two sequences; the weight of the bit is halved with each pass. -/
theorem logBits_eq (y : Int) (m : Nat) : ∀ {n : Nat} {w : Scalar}, n + m = 32 → w.toInt = logMantissa z n →
    logBits m w (y + logFraction z n) (2 ^ 31 / 2 ^ n) = y + logFraction z 32 := by
  induction m with
  | zero =>
    rintro n w rfl -
    rfl
  | succ m ih =>
    intro n w hn hw
    have hsq := logSquare_range (logMantissa_range hz n)
    have hfmul : (fmul w w).toInt = logSquare (logMantissa z n) := by
      rw [fmul, product, hw, ← logSquare, toInt_wrap64 (by omega) (by omega)]
    have hweight : (2 : Int) ^ 31 / 2 ^ n = 2 ^ (31 - n) :=
      Int.ediv_eq_of_eq_mul_left (by positivity) (pow_sub_mul_pow 2 (by omega)).symm
    have hnext : (2 : Int) ^ 31 / 2 ^ n / 2 = 2 ^ 31 / 2 ^ (n + 1) := by
      rw [Int.ediv_ediv_of_nonneg (by positivity), ← pow_succ]
    rw [logBits]
    simp only [toInt_constTwo, hfmul, hnext]
    split_ifs with htwo
    · obtain ⟨hmant, hfrac⟩ := logPass_of_two_le htwo
      rw [hweight, add_assoc, ← hfrac]
      exact ih (by omega) (by rw [toInt_sshiftRight_one, hfmul, hmant])
    · obtain ⟨hmant, hfrac⟩ := logPass_of_lt_two (not_le.1 htwo)
      rw [← hfrac]
      exact ih (by omega) (hfmul.trans hmant.symm)

end Passes

theorem logMantissa_one (n : Nat) : logMantissa (2 ^ 32) n = 2 ^ 32 := by
  induction n with
  | zero => rfl
  | succ n ih => rw [logMantissa, ih]; rfl

theorem logFraction_one (n : Nat) : logFraction (2 ^ 32) n = 0 := by
  induction n with
  | zero => rfl
  | succ n ih => rw [logFraction, ih, logMantissa_one]; rfl

/-! ### The logarithm -/

/-- What rule R151 gives for an operand in `[2^k, 2^(k+1))`: the exponent and the extracted bits. -/
def logValue (a : Int) (k : Nat) : Int := ((k : Int) - 32) * 2 ^ 32 + logFraction (a * 2 ^ 32 / 2 ^ k) 32

theorem logValue_range (a : Int) (k : Nat) :
    ((k : Int) - 32) * 2 ^ 32 ≤ logValue a k ∧ logValue a k < ((k : Int) - 31) * 2 ^ 32 := by
  have hrange := logFraction_range (a * 2 ^ 32 / 2 ^ k) le_rfl
  rw [logValue]
  omega

theorem normalised_range {a : Int} {k : Nat} (hlo : 2 ^ k ≤ a) (hhi : a < 2 ^ (k + 1)) :
    2 ^ 32 ≤ a * 2 ^ 32 / 2 ^ k ∧ a * 2 ^ 32 / 2 ^ k < 2 ^ 33 := by
  rw [pow_succ] at hhi
  rw [Int.le_ediv_iff_mul_le (by positivity), Int.ediv_lt_iff_lt_mul (by positivity)]
  omega

theorem isLog2_logValue {a : Int} {k : Nat} (hlo : 2 ^ k ≤ a) (hhi : a < 2 ^ (k + 1)) :
    IsLog2 a (logValue a k) := by
  refine ⟨k, logMantissa (a * 2 ^ 32 / 2 ^ k), fun n => ((k : Int) - 32) * 2 ^ 32 + logFraction (a * 2 ^ 32 / 2 ^ k) n,
    hlo, hhi, rfl, add_zero _, fun n _ => ⟨fun hsq => ?_, fun hsq => ?_⟩, rfl⟩
  · obtain ⟨hmant, hfrac⟩ := logPass_of_lt_two hsq
    exact ⟨hmant, congrArg _ hfrac⟩
  · obtain ⟨hmant, hfrac⟩ := logPass_of_two_le hsq
    exact ⟨hmant, (congrArg _ hfrac).trans (add_assoc ..).symm⟩

theorem logValue_two_pow (k : Nat) : logValue (2 ^ k) k = ((k : Int) - 32) * 2 ^ 32 := by
  rw [logValue, Int.mul_ediv_cancel_left _ (by positivity), logFraction_one, add_zero]

theorem log2_eq {a : Scalar} {k : Nat} (hlo : 2 ^ k ≤ a.toInt) (hhi : a.toInt < 2 ^ (k + 1)) :
    log2 a = .ok (wrap64 (logValue a.toInt k)) := by
  have hpos : (0 : Int) < 2 ^ k := by positivity
  obtain ⟨hz, hy⟩ := normalise_spec hlo hhi
  have hbits := logBits_eq (normalised_range hlo hhi) (((k : Int) - 32) * 2 ^ 32) 32 (n := 0) rfl hz
  rw [logFraction, add_zero, pow_zero, Int.ediv_one, ← hy] at hbits
  have hhalf : constHalf.toInt = 2 ^ 31 := by decide
  simp only [log2, if_neg (not_le.2 (hpos.trans_le hlo))]
  rw [hhalf, hbits, hy, logValue]

/-- A positive operand lies between two powers of two, the lower one among `2^0` to `2^62`. -/
theorem exists_exponent {a : Scalar} (h : 0 < a.toInt) : ∃ k : Nat, k < 63 ∧ 2 ^ k ≤ a.toInt ∧ a.toInt < 2 ^ (k + 1) := by
  obtain ⟨n, hn⟩ := Int.eq_ofNat_of_zero_le h.le
  have hne : n ≠ 0 := by omega
  have hlo : (2 : Int) ^ n.log2 ≤ a.toInt := by
    rw [hn]
    exact_mod_cast Nat.log2_self_le hne
  refine ⟨_, exponent_lt_of_two_pow_le hlo, hlo, ?_⟩
  rw [hn]
  exact_mod_cast Nat.lt_log2_self

theorem toInt_wrap64_logValue (a : Int) {k : Nat} (hk : k < 63) : (wrap64 (logValue a k)).toInt = logValue a k := by
  have hrange := logValue_range a k
  exact toInt_wrap64 (by omega) (by omega)

/-- The logarithm of a positive operand, with rule R151's bounds on it. -/
theorem log2_of_pos {a : Scalar} (h : 0 < a.toInt) :
    ∃ l, log2 a = .ok l ∧ IsLog2 a.toInt l.toInt ∧ -32 * 2 ^ 32 ≤ l.toInt ∧ l.toInt < 31 * 2 ^ 32 := by
  obtain ⟨k, hk, hlo, hhi⟩ := exists_exponent h
  have hrange := logValue_range a.toInt k
  refine ⟨_, log2_eq hlo hhi, ?_⟩
  rw [toInt_wrap64_logValue _ hk]
  exact ⟨isLog2_logValue hlo hhi, by omega, by omega⟩

theorem toInt_log2 {a l : Scalar} (hl : log2 a = .ok l) {k : Nat} (hlo : 2 ^ k ≤ a.toInt) (hhi : a.toInt < 2 ^ (k + 1)) :
    l.toInt = logValue a.toInt k := by
  obtain rfl := Except.ok.inj (hl.symm.trans (log2_eq hlo hhi))
  exact toInt_wrap64_logValue _ (exponent_lt_of_two_pow_le hlo)

theorem ln_of_log2 (p : Config) {a l : Scalar} (hl : log2 a = .ok l) : ln p a = .ok (fmul l p.ln2) := by
  rw [ln, hl]
  rfl

end Fix

/-- Settles O38: the exponent and 32 extracted bits, which are all zero at a power of two. -/
theorem log2DomainRangeAndPowersOfTwo : Obligations.Log2DomainRangeAndPowersOfTwo := by
  refine fun s rd ra => ⟨fun h => raises_of_finish rfl (Fix.log2_of_nonpos h), fun h => ?_⟩
  obtain ⟨l, hl, hlog, hlo, hhi⟩ := Fix.log2_of_pos h
  refine ⟨l, hl, writesScalarBy_of_finish rfl hl, hlog, hlo, hhi, fun k hk => ?_, fun k hk hk' => ?_⟩
  · have hlt : (2 : Int) ^ k < 2 ^ (k + 1) := pow_lt_pow_right₀ (by norm_num) k.lt_succ_self
    rw [Fix.toInt_log2 hl hk.ge (hk ▸ hlt), hk, Fix.logValue_two_pow]
  · rw [Fix.toInt_log2 hl hk hk']
    exact Fix.logValue_range _ k

/-- Settles O39: `Ln2` is less than `One`, so the fast multiply does not wrap. -/
theorem naturalLogScalesLog2 : Obligations.NaturalLogScalesLog2 := by
  refine fun s rd ra => ⟨fun h => raises_of_finish rfl (Fix.ln_of_nonpos config h), fun h => ?_⟩
  obtain ⟨l, hl, hlog, hlo, hhi⟩ := Fix.log2_of_pos h
  have hln2 : config.ln2.toInt = 2977044471 := by decide
  refine ⟨l, _, hl, hlog, writesScalarBy_of_finish rfl (Fix.ln_of_log2 config hl), ?_⟩
  rw [Fix.fmul, Fix.product, hln2, toInt_wrap64 (by omega) (by omega)]

end Sys2Proof.Machine
end

section
/-! Powers (rules R153, R154): obligations O40 to O42. -/

namespace Sys2Proof.Machine

theorem ne_of_toInt_lt {a b : Scalar} (h : a.toInt < b.toInt) : a ≠ b := ne_of_apply_ne BitVec.toInt h.ne

namespace Fix

/-! ## The series of rule R153 on integers -/

/-- `term` after `i` passes of the loop. -/
def seriesTerm (ln2 fr : Int) : Nat → Int
  | 0 => 2 ^ 32
  | i + 1 => roundedQuotient (fr * seriesTerm ln2 fr i / 2 ^ 32 * ln2 / 2 ^ 32) (i + 1)

theorem seriesTerm_succ (ln2 fr : Int) (i : Nat) :
    seriesTerm ln2 fr (i + 1) = roundedQuotient (fr * seriesTerm ln2 fr i / 2 ^ 32 * ln2 / 2 ^ 32) (i + 1) := rfl

/-- `result` after `i` passes. -/
def seriesSum (ln2 fr : Int) : Nat → Int
  | 0 => 2 ^ 32
  | i + 1 => clamp64 (seriesSum ln2 fr i + seriesTerm ln2 fr (i + 1))

/-- A factor below `One` makes a number smaller, unless nothing of it is left. -/
theorem mul_ediv_one_range {f t : Int} (hf : 0 ≤ f ∧ f < 2 ^ 32) (ht : 0 ≤ t) :
    0 ≤ f * t / 2 ^ 32 ∧ (f * t / 2 ^ 32 = 0 ∨ f * t / 2 ^ 32 < t) := by
  obtain ⟨hf0, hf1⟩ := hf
  refine ⟨by positivity, ?_⟩
  rcases ht.eq_or_lt with rfl | hpos
  · exact .inl (by simp)
  · exact .inr ((Int.ediv_lt_iff_lt_mul (by norm_num)).2 (by nlinarith))

theorem roundedQuotient_one (a : Int) : roundedQuotient a 1 = a := by
  rw [roundedQuotient]
  omega

/-- Rounding up does not undo the halving: `m ≥ 1` means `d (2m - 1) ≤ 2a`. -/
theorem roundedQuotient_range {a t d : Int} (ha : 0 ≤ a) (hat : a = 0 ∨ a < t) (ht : 0 ≤ t) (hd : 2 ≤ d) :
    0 ≤ roundedQuotient a d ∧ 2 * roundedQuotient a d ≤ t := by
  have hle : roundedQuotient a d * (2 * d) ≤ 2 * a + d := Int.ediv_mul_le _ (by omega)
  have hnonneg : 0 ≤ roundedQuotient a d := Int.ediv_nonneg (by omega) (by omega)
  generalize roundedQuotient a d = m at hle hnonneg
  refine ⟨hnonneg, ?_⟩
  rcases hnonneg.eq_or_lt with rfl | hpos
  · omega
  · have hodd : 2 * (2 * m - 1) ≤ d * (2 * m - 1) := mul_le_mul_of_nonneg_right hd (by omega)
    have hle' : d * (2 * m - 1) ≤ 2 * a := by linarith
    omega

section Series

variable {ln2 fr : Int} (hln2 : 0 ≤ ln2 ∧ ln2 < 2 ^ 32) (hfr : 0 ≤ fr ∧ fr < 2 ^ 32)

include hln2 hfr

/-- The numerator of the next term. -/
theorem seriesNumerator_range {t : Int} (ht : 0 ≤ t) :
    0 ≤ fr * t / 2 ^ 32 * ln2 / 2 ^ 32 ∧ (fr * t / 2 ^ 32 * ln2 / 2 ^ 32 = 0 ∨ fr * t / 2 ^ 32 * ln2 / 2 ^ 32 < t) := by
  have hfirst := mul_ediv_one_range hfr ht
  have hsecond := mul_ediv_one_range hln2 hfirst.1
  rw [mul_comm ln2] at hsecond
  omega

/-- The first pass takes something off `One`, and each later pass at least halves the term. -/
theorem seriesTerm_succ_range (i : Nat) : 0 ≤ seriesTerm ln2 fr (i + 1) ∧ 2 ^ i * seriesTerm ln2 fr (i + 1) < 2 ^ 32 := by
  induction i with
  | zero =>
    have hnum := seriesNumerator_range hln2 hfr (t := 2 ^ 32) (by norm_num)
    rw [seriesTerm, seriesTerm, Nat.cast_zero, zero_add, roundedQuotient_one]
    omega
  | succ i ih =>
    obtain ⟨hnonneg, hlt⟩ := ih
    obtain ⟨hnum, hnum'⟩ := seriesNumerator_range hln2 hfr hnonneg
    obtain ⟨hnext, hhalf⟩ := roundedQuotient_range (d := (i + 1 : Nat) + 1) hnum hnum' hnonneg (by omega)
    rw [seriesTerm]
    have hpow : (0 : Int) < 2 ^ i := by positivity
    exact ⟨hnext, by rw [pow_succ]; nlinarith⟩

theorem seriesTerm_range (i : Nat) : 0 ≤ seriesTerm ln2 fr i ∧ seriesTerm ln2 fr i ≤ 2 ^ 32 := by
  cases i with
  | zero => exact ⟨by norm_num [seriesTerm], le_rfl⟩
  | succ i =>
    obtain ⟨hnonneg, hlt⟩ := seriesTerm_succ_range hln2 hfr i
    have hpow : (1 : Int) ≤ 2 ^ i := one_le_pow₀ (by norm_num)
    exact ⟨hnonneg, by nlinarith⟩

theorem exists_seriesTerm_eq_zero : ∃ n ≤ 33, seriesTerm ln2 fr n = 0 ∧ ∀ i < n, seriesTerm ln2 fr i ≠ 0 := by
  have hrange : 0 ≤ seriesTerm ln2 fr 33 ∧ 2 ^ 32 * seriesTerm ln2 fr 33 < 2 ^ 32 := seriesTerm_succ_range hln2 hfr 32
  have hzero : seriesTerm ln2 fr 33 = 0 := by omega
  have hex : ∃ n, seriesTerm ln2 fr n = 0 := ⟨33, hzero⟩
  exact ⟨Nat.find hex, Nat.find_min' hex hzero, Nat.find_spec hex, fun _ => Nat.find_min hex⟩

end Series

theorem fitsS64_clamp64 (z : Int) : FitsS64 (clamp64 z) := by
  unfold FitsS64 clamp64
  omega

theorem fitsS64_seriesSum (ln2 fr : Int) (i : Nat) : FitsS64 (seriesSum ln2 fr i) := by
  cases i with
  | zero => norm_num [FitsS64, seriesSum]
  | succ i => exact fitsS64_clamp64 _

theorem isPow2Series_seriesSum {ln2 fr : Int} {n : Nat} (hn : seriesTerm ln2 fr n = 0)
    (hne : ∀ i < n, seriesTerm ln2 fr i ≠ 0) : IsPow2Series ln2 fr (seriesSum ln2 fr n) :=
  ⟨seriesTerm ln2 fr, seriesSum ln2 fr, n, rfl, rfl, fun i hi => ⟨hne i hi, rfl, rfl⟩, hn, rfl⟩

/-- With no fractional part the first term is 0, and the series is `One`. -/
theorem eq_one_of_isPow2Series_zero {ln2 r : Int} (h : IsPow2Series ln2 0 r) : r = 2 ^ 32 := by
  obtain ⟨term, result, n, hterm, hresult, hstep, hn, rfl⟩ := h
  match n with
  | 0 => omega
  | n + 1 =>
    obtain ⟨-, hterm1, hresult1⟩ := hstep 0 n.succ_pos
    have hzero : term 1 = 0 := by simpa [roundedQuotient] using hterm1
    match n with
    | 0 =>
      rw [hresult1, hresult]
      simp [hzero, clamp64]
    | n + 1 => exact absurd hzero (hstep 1 (by omega)).1

/-! ## The loop runs through the integer series -/

theorem sat64_eq_wrap64_clamp64 (z : Int) : sat64 z = wrap64 (clamp64 z) := by
  obtain ⟨hlo, hhi⟩ := fitsS64_clamp64 z
  exact BitVec.eq_of_toInt_eq (by rw [toInt_sat64_eq_clamp64, toInt_wrap64 hlo hhi])

theorem toInt_fmul_of_inUnit {a b : Scalar} (ha : InUnit a) (hb : InUnit b) :
    (fmul a b).toInt = a.toInt * b.toInt / 2 ^ 32 := by
  obtain ⟨ha0, ha1⟩ := ha
  obtain ⟨hb0, hb1⟩ := hb
  have hlo : 0 ≤ a.toInt * b.toInt := mul_nonneg ha0 hb0
  have hhi : a.toInt * b.toInt ≤ 2 ^ 32 * 2 ^ 32 := mul_le_mul ha1 hb1 hb0 (by norm_num)
  rw [fmul, product, toInt_wrap64 (by omega) (by omega)]

/-- The rounded division of rule R103, the divisor a whole number: half of `2a / i + 1`. -/
theorem quotient_index {a : Scalar} (ha : 0 ≤ a.toInt) {i : Nat} (h0 : 1 ≤ i) (h1 : i < 2 ^ 31) :
    quotient a (wrap64 (i * 2 ^ 32)) = roundedQuotient a.toInt i := by
  have hi : (wrap64 (i * 2 ^ 32)).toInt = (i * 2 ^ 32 : Nat) := toInt_wrap64 (by omega) (by omega)
  obtain ⟨n, hn⟩ := Int.eq_ofNat_of_zero_le ha
  have hhalf : (n * 2 ^ 33 / (i * 2 ^ 32) + 1) / 2 = (2 * n + i) / (2 * i) := calc
    (n * 2 ^ 33 / (i * 2 ^ 32) + 1) / 2 = (2 * n * 2 ^ 32 / (i * 2 ^ 32) + 1) / 2 := by ring_nf
    _ = (2 * n / i + 1) / 2 := by rw [Nat.mul_div_mul_right _ _ (by norm_num)]
    _ = (2 * n + i) / i / 2 := by rw [Nat.add_div_right _ h0]
    _ = (2 * n + i) / (2 * i) := by rw [Nat.div_div_eq_div_mul, mul_comm i]
  rw [quotient_eq_ite, hi, hn, if_pos (by omega), Int.natAbs_natCast, Int.natAbs_natCast, hhalf, roundedQuotient]
  push_cast
  rfl

theorem pow2Series_zero (p : Config) (f : Scalar) (fuel : Nat) (result : Scalar) (i : Nat) :
    pow2Series p f fuel 0#64 result i = .ok result := by
  cases fuel <;> simp [pow2Series]

/-- A pass with a nonzero term. -/
theorem pow2Series_succ {p : Config} {f : Scalar} {term next : Scalar} {i : Nat} (hterm : term ≠ 0#64)
    (hnext : div (fmul (fmul f term) p.ln2) (wrap64 (i * 2 ^ 32)) = .ok next) (fuel : Nat) (result : Scalar) :
    pow2Series p f (fuel + 1) term result i = pow2Series p f fuel next (add result next) (i + 1) := by
  rw [pow2Series, if_neg hterm, hnext]
  rfl

/-- The word of `term` after `i` passes. -/
def termWord (p : Config) (f : Scalar) (i : Nat) : Scalar := wrap64 (seriesTerm p.ln2.toInt f.toInt i)

/-- The word of `result` after `i` passes. -/
def sumWord (p : Config) (f : Scalar) (i : Nat) : Scalar := wrap64 (seriesSum p.ln2.toInt f.toInt i)

theorem toInt_sumWord (p : Config) (f : Scalar) (i : Nat) : (sumWord p f i).toInt = seriesSum p.ln2.toInt f.toInt i := by
  obtain ⟨hlo, hhi⟩ := fitsS64_seriesSum p.ln2.toInt f.toInt i
  exact toInt_wrap64 hlo hhi

section Loop

variable {p : Config} {f : Scalar} (hp : 0 ≤ p.ln2.toInt ∧ p.ln2.toInt < 2 ^ 32) (hf : 0 ≤ f.toInt ∧ f.toInt < 2 ^ 32)

include hp hf

theorem toInt_termWord (i : Nat) : (termWord p f i).toInt = seriesTerm p.ln2.toInt f.toInt i := by
  have hrange := seriesTerm_range hp hf i
  exact toInt_wrap64 (by omega) (by omega)

/-- One pass of the loop: the next term. -/
theorem div_termWord {i : Nat} (hi : i < 2 ^ 30) :
    div (fmul (fmul f (termWord p f i)) p.ln2) (wrap64 ((i + 1 : Nat) * 2 ^ 32)) = .ok (termWord p f (i + 1)) := by
  have hterm : InUnit (termWord p f i) := by
    rw [InUnit, toInt_termWord hp hf]
    exact seriesTerm_range hp hf i
  have hfUnit : InUnit f := ⟨hf.1, hf.2.le⟩
  have hpUnit : InUnit p.ln2 := ⟨hp.1, hp.2.le⟩
  have hinner := fmul_inUnit hfUnit hterm
  have hnum := fmul_inUnit hinner hpUnit
  have hdivisor := one_le_wrap64_mul (i := i + 1) (by omega) (by omega)
  have hnext := seriesTerm_range hp hf (i + 1)
  rw [div_of_ne _ (ne_zero_of_toInt_pos (by omega)), quotient_index hnum.1 (by omega) (by omega),
    toInt_fmul_of_inUnit hinner hpUnit, toInt_fmul_of_inUnit hfUnit hterm, toInt_termWord hp hf, Nat.cast_succ,
    ← seriesTerm_succ, sat64_eq_wrap64 (by omega) (by omega), termWord]

/-- One pass of the loop: the next sum. -/
theorem add_termWord (i : Nat) : add (sumWord p f i) (termWord p f (i + 1)) = sumWord p f (i + 1) := by
  rw [add, toInt_sumWord, toInt_termWord hp hf, sat64_eq_wrap64_clamp64, sumWord, seriesSum]

theorem termWord_eq_zero_iff (i : Nat) : termWord p f i = 0#64 ↔ seriesTerm p.ln2.toInt f.toInt i = 0 := by
  rw [← BitVec.toInt_inj, toInt_termWord hp hf, BitVec.toInt_zero]

/-- With passes enough to reach the first zero term the loop leaves the sum at that term. -/
theorem pow2Series_eq_sumWord (d : Nat) : ∀ {k fuel : Nat}, d ≤ fuel → k + d < 2 ^ 30 →
    seriesTerm p.ln2.toInt f.toInt (k + d) = 0 → (∀ i < k + d, seriesTerm p.ln2.toInt f.toInt i ≠ 0) →
    pow2Series p f fuel (termWord p f k) (sumWord p f k) (k + 1) = .ok (sumWord p f (k + d)) := by
  induction d with
  | zero =>
    intro k fuel _ _ hzero _
    rw [(termWord_eq_zero_iff hp hf k).2 hzero, pow2Series_zero, add_zero]
  | succ d ih =>
    intro k fuel hfuel hk hzero hne
    obtain ⟨fuel, rfl⟩ := Nat.exists_eq_add_of_le' (Nat.one_le_of_lt hfuel)
    have hterm := mt (termWord_eq_zero_iff hp hf k).1 (hne k (by omega))
    rw [show k + (d + 1) = k + 1 + d by omega] at hk hzero hne ⊢
    rw [pow2Series_succ hterm (div_termWord hp hf (by omega)), add_termWord hp hf]
    exact ih (k := k + 1) (fuel := fuel) (by omega) hk hzero hne

/-- The series ends within 33 passes, at the value rule R153 gives. -/
theorem pow2Series_ends :
    ∃ v, IsPow2Series p.ln2.toInt f.toInt v.toInt ∧
      ∀ fuel ≥ 33, pow2Series p f fuel constOne constOne 1 = .ok v := by
  obtain ⟨n, hn33, hn, hne⟩ := exists_seriesTerm_eq_zero hp hf
  refine ⟨sumWord p f n, toInt_sumWord p f n ▸ isPow2Series_seriesSum hn hne, fun fuel hfuel => ?_⟩
  have hrun := @pow2Series_eq_sumWord p f hp hf n 0 fuel (by omega)
  rw [zero_add] at hrun
  exact hrun (by omega) hn hne

end Loop

/-! ## The arms of rule R153 -/

theorem toInt_constLog2Max : constLog2Max.toInt = 31 * 2 ^ 32 := by decide

/-- From 0 up the arms for a sign give what the arms without one give. -/
theorem pow2_of_nonneg (p : Config) {x : Scalar} (h : 0 ≤ x.toInt) : pow2 p x = pow2NonNeg p x := by
  have hminus : x ≠ constMinusOne := (ne_of_toInt_lt (lt_of_lt_of_le (by decide) h)).symm
  have hmax := toInt_constLog2Max
  unfold pow2
  split_ifs with hzero hone hbig
  · rw [pow2NonNeg, if_pos hzero]
  · rw [pow2NonNeg, if_neg hzero, if_pos hone]
  · rw [pow2NonNeg, if_neg hzero, if_neg hone, if_pos hbig]
  · omega
  · omega
  · rfl

theorem pow2_of_ge (p : Config) {x : Scalar} (h : 31 * 2 ^ 32 ≤ x.toInt) : pow2 p x = .ok constMaxValue := by
  have hzero : x ≠ 0#64 := ne_zero_of_toInt_pos (by omega)
  have hone : x ≠ constOne := (ne_of_toInt_lt (lt_of_lt_of_le (by decide) h)).symm
  have hmax := toInt_constLog2Max
  rw [pow2_of_nonneg p (by omega), pow2NonNeg, if_neg hzero, if_neg hone, if_pos (by omega)]

theorem pow2_minusOne (p : Config) : pow2 p constMinusOne = .ok constHalf := rfl

/-- The arms below 0 but the one at -1: the clamp, and the reciprocal of `POW2` of the negation. -/
theorem pow2_of_neg (p : Config) {x : Scalar} (hneg : x.toInt < 0) (hminus : x ≠ constMinusOne) :
    pow2 p x = if x.toInt < -31 * 2 ^ 32 then .ok constPrecisionUnit else (pow2 p (neg x)).bind (div constOne) := by
  have hzero : x ≠ 0#64 := ne_of_toInt_lt hneg
  have hone : x ≠ constOne := ne_of_toInt_lt (hneg.trans (by decide))
  have hmax := toInt_constLog2Max
  have hnonneg : 0 ≤ (neg x).toInt := le_toInt_sat64 (by omega) (by norm_num)
  rw [pow2_of_nonneg p hnonneg, pow2, if_neg hzero, if_neg hone, if_neg hminus, if_neg (by omega), if_pos hneg, hmax]
  rfl

theorem pow2_of_lt (p : Config) {x : Scalar} (h : x.toInt < -31 * 2 ^ 32) : pow2 p x = .ok constPrecisionUnit :=
  (pow2_of_neg p (by omega) (ne_of_toInt_lt (h.trans (by decide)))).trans (if_pos h)

theorem pow2_reciprocal (p : Config) {x : Scalar} (hlo : -31 * 2 ^ 32 ≤ x.toInt) (hneg : x.toInt < 0)
    (hminus : x ≠ constMinusOne) : pow2 p x = (pow2 p (neg x)).bind (div constOne) :=
  (pow2_of_neg p hneg hminus).trans (if_neg (not_lt.2 hlo))

/-- The arms from 0 to 31 are the series on the fraction, shifted by the whole part: at 0 and at `One` as well. -/
theorem pow2_isPow2Series {p : Config} (hp : 0 ≤ p.ln2.toInt ∧ p.ln2.toInt < 2 ^ 32) {x : Scalar} (hx : 0 ≤ x.toInt)
    (hx31 : x.toInt < 31 * 2 ^ 32) :
    ∃ v r, pow2 p x = .ok v ∧ IsPow2Series p.ln2.toInt (x.toInt % 2 ^ 32) r ∧
      v.toInt = clamp64 (r * 2 ^ (x.toInt / 2 ^ 32).toNat) := by
  have hfr := toInt_fr x
  obtain ⟨r, hr, hrun⟩ := pow2Series_ends hp (f := fr x) (by omega)
  rw [hfr] at hr
  have hmax := toInt_constLog2Max
  rw [pow2_of_nonneg p hx, pow2NonNeg]
  split_ifs with hzero hone hbig
  · subst hzero
    exact ⟨_, _, rfl, hr, by rw [eq_one_of_isPow2Series_zero hr]; rfl⟩
  · subst hone
    exact ⟨_, _, rfl, hr, by rw [eq_one_of_isPow2Series_zero hr]; rfl⟩
  · omega
  · refine ⟨_, _, ?_, hr, toInt_sat64_eq_clamp64 _⟩
    rw [← fr, hrun pow2Fuel (by decide)]
    rfl

/-- At a whole exponent the series is `One`, and the shift is exact. -/
theorem clamp64_isPow2Series_zero {ln2 r : Int} (h : IsPow2Series ln2 0 r) {n : Nat} (hn : n ≤ 30) :
    clamp64 (r * 2 ^ n) = 2 ^ (n + 32) := by
  have hpos : (0 : Int) < 2 ^ n := by positivity
  have hle : (2 : Int) ^ n ≤ 2 ^ 30 := pow_le_pow_right₀ (by norm_num) hn
  rw [eq_one_of_isPow2Series_zero h, clamp64, pow_add]
  omega

theorem pow2_completes {p : Config} (hp : InUnit p.ln2) (x : Scalar) : ∃ v, pow2 p x = .ok v := by
  cases h : pow2 p x with
  | ok v => exact ⟨v, rfl⟩
  | error c => exact absurd (raisesOnly_pow2 (cs := []) hp x c h) List.not_mem_nil

end Fix

/-- Settles O41: the series has ended before the passes the model allows are used up. -/
theorem powerSeriesTerminates : Obligations.PowerSeriesTerminates := by
  intro p x n hp0 hp1 hx0 hx1
  obtain ⟨v, -, hrun⟩ := Fix.pow2Series_ends ⟨hp0, hp1⟩ ⟨hx0, hx1⟩
  rw [hrun Fix.pow2Fuel (by decide), hrun (Fix.pow2Fuel + n) (by rw [Fix.pow2Fuel]; omega)]

/-- Settles O40: each arm gives one value, and the command always has one. -/
theorem powerOfTwoArms : Obligations.PowerOfTwoArms := by
  intro s rd ra
  generalize hx : s.getF ra = x
  have hln2 : config.ln2.toInt = 2977044471 := by decide
  have hunit : InUnit config.ln2 := by unfold InUnit; decide
  obtain ⟨v, hv⟩ := Fix.pow2_completes hunit x
  have hval : ∀ {w}, Fix.pow2 config x = .ok w → v = w := fun hw => Except.ok.inj (hv.symm.trans hw)
  have hseries : 0 ≤ x.toInt → x.toInt < 31 * 2 ^ 32 → ∃ r, IsPow2Series 2977044471 (x.toInt % 2 ^ 32) r ∧
      v.toInt = clamp64 (r * 2 ^ (x.toInt / 2 ^ 32).toNat) := by
    intro h0 h31
    obtain ⟨w, r, hw, hr, hwr⟩ := Fix.pow2_isPow2Series (p := config) (by omega) h0 h31
    rw [hval hw, ← hln2]
    exact ⟨r, hr, hwr⟩
  refine ⟨v, hv, writesScalarBy_of_finish rfl (hx ▸ hv), fun h => hval (Fix.pow2_of_ge config h),
    fun h => hval (Fix.pow2_of_lt config h), fun h => ?_, fun n hn h => ?_, hseries, fun hlo hneg hminus => ?_⟩
  · obtain rfl : x = constMinusOne := BitVec.eq_of_toInt_eq h
    exact hval (Fix.pow2_minusOne config)
  · obtain ⟨r, hr, hvr⟩ := hseries (by omega) (by omega)
    rw [h, Int.mul_emod_left] at hr
    rw [hvr, h, Int.mul_ediv_cancel _ (by norm_num), Int.toNat_natCast, Fix.clamp64_isPow2Series_zero hr hn]
  · obtain ⟨y, hy⟩ := Fix.pow2_completes hunit (Fix.neg x)
    rw [Fix.pow2_reciprocal config hlo hneg fun e => hminus (e ▸ rfl), hy] at hv
    exact ⟨y, hy, hv⟩

/-! ## The power (rule R154) -/

namespace Fix

theorem pow_one_or_zero (p : Config) {b e : Scalar} (h : b = constOne ∨ e = 0#64) : pow p b e = .ok constOne := by
  rcases h with rfl | rfl
  · exact if_pos rfl
  · rw [pow, if_pos rfl, ite_self]

theorem pow_zero_base (p : Config) {b e : Scalar} (hb : b = 0#64) (he : e ≠ 0#64) :
    pow p b e = if e.toInt < 0 then .error .divisionByZero else .ok constZero := by
  rw [hb, pow, if_neg (by decide), if_neg he, if_pos rfl]

theorem pow_of_neg_base (p : Config) {b e : Scalar} (hb : b.toInt < 0) (he : e ≠ 0#64) :
    pow p b e = .error .domainError := by
  have hone : b ≠ constOne := ne_of_toInt_lt (hb.trans (by decide))
  have hzero : b ≠ 0#64 := ne_of_toInt_lt hb
  rw [pow, if_neg hone, if_neg he, if_neg hzero, if_pos hb]

theorem pow_of_pos_base (p : Config) {b e : Scalar} (hb : 0 < b.toInt) (hone : b ≠ constOne) (he : e ≠ 0#64) :
    pow p b e = (log2 b).bind fun l => pow2 p (mul e l) := by
  rw [pow, if_neg hone, if_neg he, if_neg (ne_zero_of_toInt_pos hb), if_neg (by omega)]
  rfl

end Fix

/-- Settles O42: the rule's tests in their order; in the general case neither the logarithm nor the power of two raises. -/
theorem generalPowerArms : Obligations.GeneralPowerArms := by
  intro s rd ra rb
  refine ⟨fun h => writesScalarBy_of_finish rfl (Fix.pow_one_or_zero config h), fun hb he => ?_, fun hb he => ?_,
    fun hb he => raises_of_finish rfl (Fix.pow_of_neg_base config hb he), fun hb hone he => ?_⟩
  · have hpow := Fix.pow_zero_base config hb (ne_of_toInt_lt he)
    exact raises_of_finish rfl (hpow.trans (if_pos he))
  · have hpow := Fix.pow_zero_base config hb (ne_zero_of_toInt_pos he)
    exact writesScalarBy_of_finish rfl (hpow.trans (if_neg (not_lt.2 he.le)))
  · obtain ⟨l, hl, -⟩ := Fix.log2_of_pos hb
    obtain ⟨v, hv⟩ := Fix.pow2_completes (p := config) (by unfold InUnit; decide) (Fix.mul (s.getF rb) l)
    refine ⟨l, v, hl, hv, writesScalarBy_of_finish rfl ?_⟩
    rw [Fix.pow_of_pos_base config hb hone he, hl]
    exact hv

end Sys2Proof.Machine
end

section
/-! Angles, the sine core and the tangent (rules R171 to R176): obligations O43, O44, O45 and O49. -/

namespace Sys2Proof.Machine

namespace Fix

theorem toInt_constFullRot : constFullRot.toInt = 360 * 2 ^ 32 := by decide

theorem toInt_constHalfRot : constHalfRot.toInt = 180 * 2 ^ 32 := by decide

theorem toInt_constQuarterRot : constQuarterRot.toInt = 90 * 2 ^ 32 := by decide

/-! ## Turns of the sine core (rule R173) -/

theorem angle360_add_turns (a k : Int) : angle360 (a + k * (360 * 2 ^ 32)) = angle360 a := by
  rw [angle360, toInt_constFullRot, Int.add_mul_emod_self_right, angle360, toInt_constFullRot]

theorem angle180_add_half_turn (a : Int) :
    angle180 (a + 180 * 2 ^ 32) = angle180 a ∧ flipV (a + 180 * 2 ^ 32) = !flipV a := by
  simp only [angle180, flipV, angle360, toInt_constFullRot, toInt_constHalfRot, decide_eq_true_eq, ← decide_not,
    decide_eq_decide]
  constructor
  · split_ifs <;> omega
  · omega

/-- The index is read off the angle in the half turn. -/
theorem sinIndex_congr {a b : Int} (h : angle180 a = angle180 b) : sinIndex a = sinIndex b := by
  have hflip : flipH a = flipH b := by rw [flipH, h, flipH]
  have hquarter : angle90 a = angle90 b := by rw [angle90, hflip, h, angle90]
  rw [sinIndex, hflip, hquarter, sinIndex]

theorem sinCore_add_turns (p : Config) (a k : Int) : sinCore p (a + k * (360 * 2 ^ 32)) = sinCore p a := by
  have hflip : flipV (a + k * (360 * 2 ^ 32)) = flipV a := by rw [flipV, angle360_add_turns, flipV]
  have hhalf : angle180 (a + k * (360 * 2 ^ 32)) = angle180 a := by
    rw [angle180, hflip, angle360_add_turns, angle180]
  rw [sinCore, sinIndex_congr hhalf, hflip, sinCore]

theorem sinCore_add_half_turn (p : Config) (a : Int) : sinCore p (a + 180 * 2 ^ 32) = -sinCore p a := by
  obtain ⟨hhalf, hflip⟩ := angle180_add_half_turn a
  rw [sinCore, sinIndex_congr hhalf, hflip, sinCore]
  cases flipV a
  · rfl
  · exact (neg_neg _).symm

end Fix

/-- Settles O44: a full turn keeps the reduced angle, and a half turn keeps the index and changes the sign. -/
theorem sineCoreTurns : Obligations.SineCoreTurns := fun p a =>
  ⟨one_mul (360 * 2 ^ 32 : Int) ▸ Fix.sinCore_add_turns p a 1, Fix.sinCore_add_half_turn p a⟩

/-! ## The entry read in each quadrant (rules R173 to R175) -/

namespace Fix

/-- In the first half turn nothing is reduced. -/
theorem angle180_of_lt {a : Nat} (h : a < 180 * 2 ^ 32) : angle180 a = a ∧ flipV a = false := by
  have hmod : angle360 a = a := by
    rw [angle360, toInt_constFullRot]
    omega
  have hflip : flipV a = false := by
    rw [flipV, hmod, toInt_constHalfRot, decide_eq_false_iff_not]
    omega
  exact ⟨by rw [angle180, hflip, if_neg Bool.false_ne_true, hmod], hflip⟩

theorem sinCore_of_lt_half (p : Config) {a : Nat} (h : a < 180 * 2 ^ 32) :
    sinCore p a = if sinIndex a = 92160 then constOne else p.sinTable (sinIndex a) := by
  obtain ⟨-, hflip⟩ := angle180_of_lt h
  rw [sinCore, hflip]
  rfl

theorem sinIndex_of_lt_quarter {a : Nat} (h : a < 90 * 2 ^ 32) : sinIndex a = a / 2 ^ 22 := by
  obtain ⟨hhalf, -⟩ := angle180_of_lt (show a < 180 * 2 ^ 32 by omega)
  have hflip : flipH a = false := by
    rw [flipH, hhalf, toInt_constQuarterRot, decide_eq_false_iff_not]
    omega
  rw [sinIndex_of_not_flipH hflip, angle90, hflip, if_neg Bool.false_ne_true, hhalf]
  omega

theorem sinIndex_of_ge_quarter {a : Nat} (h : 90 * 2 ^ 32 ≤ a) (h' : a < 180 * 2 ^ 32) :
    sinIndex a = 92160 - (a - 90 * 2 ^ 32) / 2 ^ 22 := by
  obtain ⟨hhalf, -⟩ := angle180_of_lt h'
  have hflip : flipH a = true := by
    rw [flipH, hhalf, toInt_constQuarterRot, decide_eq_true_iff]
    omega
  rw [sinIndex_of_flipH hflip, angle90, hflip, if_pos rfl, hhalf, toInt_constQuarterRot, tableSize]
  omega

theorem sinCore_of_lt_quarter (p : Config) {a : Nat} (h : a < 90 * 2 ^ 32) : sinCore p a = p.sinTable (a / 2 ^ 22) := by
  rw [sinCore_of_lt_half p (by omega), sinIndex_of_lt_quarter h, if_neg (by omega)]

theorem sinCore_at_quarter (p : Config) {a : Nat} (h : 90 * 2 ^ 32 ≤ a) (h' : a < 90 * 2 ^ 32 + 2 ^ 22) :
    sinCore p a = constOne := by
  rw [sinCore_of_lt_half p (by omega), sinIndex_of_ge_quarter h (by omega), if_pos (by omega)]

theorem sinCore_past_quarter (p : Config) {a : Nat} (h : 90 * 2 ^ 32 + 2 ^ 22 ≤ a) (h' : a < 180 * 2 ^ 32) :
    sinCore p a = p.sinTable (92160 - (a - 90 * 2 ^ 32) / 2 ^ 22) := by
  rw [sinCore_of_lt_half p h', sinIndex_of_ge_quarter (by omega) h', if_neg (by omega)]

/-! ### Quarter turns -/

/-- The four quarter turns, when the table begins with 0: the last two are the half turn of the first two. -/
theorem sinCore_quarter_turns {p : Config} (hp : p.sinTable 0 = constZero) (k : Int) :
    sinCore p (k * (90 * 2 ^ 32)) = if k % 4 = 1 then constOne else if k % 4 = 3 then constMinusOne else constZero := by
  have h0 : sinCore p 0 = constZero := (sinCore_of_lt_quarter p (a := 0) (by norm_num)).trans hp
  have h1 : sinCore p (90 * 2 ^ 32) = constOne := sinCore_at_quarter p (a := 90 * 2 ^ 32) le_rfl (by norm_num)
  have h2 : sinCore p (180 * 2 ^ 32) = constZero := (sinCore_add_half_turn p 0).trans (congrArg Neg.neg h0)
  have h3 : sinCore p (270 * 2 ^ 32) = constMinusOne := (sinCore_add_half_turn p (90 * 2 ^ 32)).trans (congrArg Neg.neg h1)
  have hturns : k * (90 * 2 ^ 32) = k % 4 * (90 * 2 ^ 32) + k / 4 * (360 * 2 ^ 32) := by omega
  rw [hturns, sinCore_add_turns]
  obtain h | h | h | h : k % 4 = 0 ∨ k % 4 = 1 ∨ k % 4 = 2 ∨ k % 4 = 3 := by omega
  · rw [h]; exact h0
  · rw [h]; exact h1
  · rw [h]; exact h2
  · rw [h]; exact h3

theorem cos_eq (p : Config) (a : Scalar) : cos p a = sinCore p (a.toInt + 90 * 2 ^ 32) := by
  rw [cos, toInt_constQuarterRot]

end Fix

theorem writesScalarBy_sin (p : Config) (s : State) (rd ra : Reg) :
    WritesScalarBy (execWith p) (.sin rd ra) s rd (Fix.sinCore p (s.getF ra).toInt) :=
  writesScalarBy_of_complete rfl

theorem writesScalarBy_cos (p : Config) (s : State) (rd ra : Reg) :
    WritesScalarBy (execWith p) (.cos rd ra) s rd (Fix.sinCore p ((s.getF ra).toInt + 90 * 2 ^ 32)) :=
  Fix.cos_eq p (s.getF ra) ▸ writesScalarBy_of_complete rfl

/-- Settles O45: the cosine of `k` quarter turns is the sine of `k + 1`. -/
theorem sineAndCosineExactAtQuarterTurns : Obligations.SineAndCosineExactAtQuarterTurns := by
  refine ⟨fun s rd ra => ?_, fun p a =>
    ⟨Fix.sinCore_of_lt_quarter p, Fix.sinCore_at_quarter p, Fix.sinCore_past_quarter p⟩⟩
  have hsin := writesScalarBy_sin config s rd ra
  have hcos := writesScalarBy_cos config s rd ra
  rw [execWith_config] at hsin hcos
  have hturns := Fix.sinCore_quarter_turns (p := config) (by decide)
  refine ⟨hsin, hcos, fun k hk => ?_, fun p => ⟨writesScalarBy_sin p s rd ra, writesScalarBy_cos p s rd ra⟩⟩
  have hnext : k * (90 * 2 ^ 32) + 90 * 2 ^ 32 = (k + 1) * (90 * 2 ^ 32) := by ring
  have hone : (k + 1) % 4 = 1 ↔ k % 4 = 0 := by omega
  have hthree : (k + 1) % 4 = 3 ↔ k % 4 = 2 := by omega
  rw [hk, hturns] at hsin
  rw [hk, hnext, hturns] at hcos
  simp only [hone, hthree] at hcos
  exact ⟨hsin, hcos⟩

/-! ## The tangent (rule R176) -/

namespace Fix

/-- The fold keeps the side of 0 on which an end of the range lies. -/
theorem tanReduce_end_sign (a : Int) :
    (tanReduce a = 90 * 2 ^ 32 → 0 < a) ∧ (tanReduce a = -(90 * 2 ^ 32) → a < 0) := by
  have hpos : 0 < a.tmod (180 * 2 ^ 32) → 0 < a := fun h => by
    by_contra! ha
    have := Int.tmod_nonneg (180 * 2 ^ 32) (neg_nonneg.2 ha)
    rw [Int.neg_tmod] at this
    omega
  have hneg : a.tmod (180 * 2 ^ 32) < 0 → a < 0 := fun h => by
    by_contra! ha
    exact absurd (Int.tmod_nonneg (180 * 2 ^ 32) ha) (not_le.2 h)
  have hlt : a.tmod (180 * 2 ^ 32) < 180 * 2 ^ 32 := Int.tmod_lt_of_pos a (by decide)
  have hgt : -(180 * 2 ^ 32) < a.tmod (180 * 2 ^ 32) := Int.lt_tmod_of_pos a (by decide)
  simp only [tanReduce, toInt_constHalfRot, toInt_constQuarterRot]
  split_ifs <;> omega

theorem tan_of_inner (p : Config) {a : Scalar} (h : (tanReduce a.toInt).natAbs < 90 * 2 ^ 32) :
    tan p a = if tanReduce a.toInt < 0 then neg (p.tanTable ((tanReduce a.toInt).natAbs / 2 ^ 22))
      else p.tanTable ((tanReduce a.toInt).natAbs / 2 ^ 22) := by
  have hidx : ¬ (tanReduce a.toInt).natAbs / 2 ^ 22 ≥ tableSize := by
    rw [tableSize]
    omega
  simp only [tan, if_neg hidx]

theorem tan_of_end (p : Config) {a : Scalar} (h : (tanReduce a.toInt).natAbs = 90 * 2 ^ 32) :
    tan p a = if tanReduce a.toInt < 0 then constMinValue else constMaxValue := by
  have hidx : (tanReduce a.toInt).natAbs / 2 ^ 22 ≥ tableSize := by
    rw [tableSize]
    omega
  simp only [tan, if_pos hidx]

theorem isTangent_tan (p : Config) (a : Scalar) : IsTangent p.tanTable a.toInt (tan p a) := by
  obtain ⟨⟨k, hk⟩, hlo, hhi⟩ := tanReduce_spec a.toInt
  obtain ⟨hpos, hneg⟩ := tanReduce_end_sign a.toInt
  refine ⟨tanReduce a.toInt, ⟨-k, by omega⟩, hlo, hhi, fun h => ⟨hpos h, ?_⟩, fun h => ⟨hneg h, ?_⟩, fun h h' => ?_,
    fun h h' => ?_⟩
  · rw [tan_of_end p (by omega), if_neg (by omega)]
  · rw [tan_of_end p (by omega), if_pos (by omega)]
  · rw [tan_of_inner p (by omega), if_neg (by omega)]
  · rw [tan_of_inner p (by omega), if_pos h', neg, toInt_sat64_eq_clamp64]

end Fix

/-- Settles O49: the fold leaves the two poles at its ends, and the table index in range everywhere else. -/
theorem tangentPolesAndTable : Obligations.TangentPolesAndTable := fun _ _ _ =>
  ⟨⟨_, writesScalarBy_of_complete rfl, Fix.isTangent_tan config _⟩,
    fun p => ⟨_, writesScalarBy_of_complete rfl, Fix.isTangent_tan p _⟩⟩

/-! ## Degrees and radians (rules R171, R172) -/

namespace Fix

theorem toDeg_of_ne {p : Config} (hp : p.pi ≠ 0#64) (r : Scalar) :
    toDeg p r = .ok (sat64 (quotient (mul r constHalfRot) p.pi)) := div_of_ne _ hp

theorem toRad_eq (p : Config) (d : Scalar) : toRad p d = .ok (sat64 (quotient (mul d p.pi) constHalfRot)) :=
  div_of_ne _ (by decide)

end Fix

/-- Settles O43: neither divisor is 0, and the product of `Pi` and 180 degrees is exact. -/
theorem degreesAndRadians : Obligations.DegreesAndRadians := by
  intro s rd ra
  have hdeg := Fix.toDeg_of_ne (p := config) (by decide) (s.getF ra)
  have hrad := Fix.toRad_eq config (s.getF ra)
  refine ⟨⟨_, hdeg, writesScalarBy_of_finish rfl hdeg, fun h => ?_⟩,
    ⟨_, hrad, writesScalarBy_of_finish (e := Fix.toRad config (s.getF ra)) rfl hrad, fun h => ?_⟩⟩
  · rw [h]; decide
  · rw [h]; decide

end Sys2Proof.Machine
end

section
/-! The inverse functions (rules R177 to R179): obligations O50 to O52. -/

namespace Sys2Proof.Machine

namespace Fix

/-- The rest of a procedure runs with the value its first step gave (rule R10). -/
theorem bind_of_ok {α β : Type} {x : Except Cause α} {v : α} (h : x = .ok v) (f : α → Except Cause β) :
    x >>= f = f v := by
  subst h
  rfl

/-! ## The series of rule R177 on integers -/

/-- `dividend` after `i` passes of the loop. -/
def atanDividend (zSq : Int) (i : Nat) : Int := zSq * 2 * (i + 1)

/-- `divisor` after `i` passes. -/
def atanDivisor (zSq : Int) (i : Nat) : Int := (zSq + 2 ^ 32) * (2 * i + 3)

/-- The quotient of pass `i`. -/
def atanRatio (zSq : Int) (i : Nat) : Int := roundedQuotient (atanDividend zSq i * 2 ^ 32) (atanDivisor zSq i)

/-- `term` after `i` passes. -/
def atanTerm (zSq : Int) : Nat → Int
  | 0 => 2 ^ 32
  | i + 1 => atanTerm zSq i * atanRatio zSq i / 2 ^ 32

/-- The sum after `i` passes. -/
def atanSum (zSq : Int) : Nat → Int
  | 0 => 2 ^ 32
  | i + 1 => atanSum zSq i + atanTerm zSq (i + 1)

/-- The three operations in degrees after the loop. -/
def atanDegrees (rad2Deg z zSq sum : Int) : Int :=
  roundedQuotient (sum * z / 2 ^ 32 * rad2Deg / 2 ^ 32 * 2 ^ 32) (zSq + 2 ^ 32)

theorem atanDividend_succ (zSq : Int) (i : Nat) : atanDividend zSq (i + 1) = atanDividend zSq i + zSq * 2 := by
  rw [atanDividend, atanDividend]
  push_cast
  ring

theorem atanDivisor_succ (zSq : Int) (i : Nat) :
    atanDivisor zSq (i + 1) = atanDivisor zSq i + (zSq + 2 ^ 32) * 2 := by
  rw [atanDivisor, atanDivisor]
  push_cast
  ring

theorem isAtanUnit_atanDegrees (rad2Deg z : Int) {n : Nat} (hn : n ≤ 28)
    (hend : n = 28 ∨ atanTerm (z * z / 2 ^ 32) n = 0) (hne : ∀ i < n, atanTerm (z * z / 2 ^ 32) i ≠ 0) :
    IsAtanUnit rad2Deg z (atanDegrees rad2Deg z (z * z / 2 ^ 32) (atanSum (z * z / 2 ^ 32) n)) :=
  ⟨_, _, atanTerm _, atanSum _, atanDividend _, atanDivisor _, n, rfl, rfl, rfl, rfl, by simp [atanDividend],
    by simp [atanDivisor], fun i hi => ⟨hne i hi, rfl, rfl, atanDividend_succ _ i, atanDivisor_succ _ i⟩, hn, hend, rfl⟩

theorem roundedQuotient_nonneg_le {a b m : Int} (ha : 0 ≤ a) (hb : 0 < b) (h : a ≤ m * b) :
    0 ≤ roundedQuotient a b ∧ roundedQuotient a b ≤ m := by
  refine ⟨Int.ediv_nonneg (by omega) (by omega), Int.lt_add_one_iff.1 ((Int.ediv_lt_iff_lt_mul (by omega)).2 ?_)⟩
  linarith

section Series

variable {zSq : Int} (h0 : 0 ≤ zSq)

include h0

theorem atanDividend_nonneg (i : Nat) : 0 ≤ atanDividend zSq i := by
  rw [atanDividend]
  positivity

theorem atanDivisor_pos (i : Nat) : 0 < atanDivisor zSq i := by
  rw [atanDivisor]
  positivity

/-- `2 (i + 1) zSq` is at most `(2 i + 3) (zSq + One)`, so the quotient is at most `One`. -/
theorem atanRatio_range (i : Nat) : 0 ≤ atanRatio zSq i ∧ atanRatio zSq i ≤ 2 ^ 32 := by
  have hdividend := atanDividend_nonneg h0 i
  have hle : atanDividend zSq i ≤ atanDivisor zSq i := by
    rw [atanDividend, atanDivisor]
    linarith
  exact roundedQuotient_nonneg_le (by omega) (atanDivisor_pos h0 i) (by omega)

theorem atanTerm_range (i : Nat) : 0 ≤ atanTerm zSq i ∧ atanTerm zSq i ≤ 2 ^ 32 := by
  induction i with
  | zero => exact ⟨by norm_num [atanTerm], le_rfl⟩
  | succ i ih =>
    obtain ⟨ht0, ht1⟩ := ih
    obtain ⟨hq0, hq1⟩ := atanRatio_range h0 i
    exact ⟨Int.ediv_nonneg (mul_nonneg ht0 hq0) (by norm_num),
      Int.ediv_le_of_le_mul (by norm_num) (mul_le_mul ht1 hq1 hq0 (by norm_num))⟩

theorem atanSum_range (i : Nat) : 0 ≤ atanSum zSq i ∧ atanSum zSq i ≤ (i + 1) * 2 ^ 32 := by
  induction i with
  | zero => exact ⟨by norm_num [atanSum], by norm_num [atanSum]⟩
  | succ i ih =>
    have hterm := atanTerm_range h0 (i + 1)
    rw [atanSum]
    push_cast
    omega

end Series

/-! ## The operations on words that neither saturate nor are negative -/

theorem toInt_wrap64_of_nonneg {x : Int} (h0 : 0 ≤ x) (h1 : x < 2 ^ 63) : (wrap64 x).toInt = x :=
  toInt_wrap64 (by omega) (by omega)

theorem add_wrap64 {x y : Int} (hx : 0 ≤ x) (hy : 0 ≤ y) (h : x + y < 2 ^ 63) :
    add (wrap64 x) (wrap64 y) = wrap64 (x + y) := by
  rw [add, toInt_wrap64_of_nonneg hx (by omega), toInt_wrap64_of_nonneg hy (by omega),
    sat64_eq_wrap64 (by omega) (by omega)]

theorem mul_wrap64 {x y : Int} (hx : 0 ≤ x) (hx' : x < 2 ^ 63) (hy : 0 ≤ y) (hy' : y < 2 ^ 63) (h : x * y < 2 ^ 95) :
    mul (wrap64 x) (wrap64 y) = wrap64 (x * y / 2 ^ 32) := by
  have hxy : 0 ≤ x * y := mul_nonneg hx hy
  rw [mul, product, toInt_wrap64_of_nonneg hx hx', toInt_wrap64_of_nonneg hy hy', sat64_eq_wrap64 (by omega) (by omega)]

/-- The rounded division of rule R103 on a nonnegative dividend and a positive divisor. -/
theorem quotient_eq_roundedQuotient {a b : Scalar} (ha : 0 ≤ a.toInt) (hb : 0 < b.toInt) :
    quotient a b = roundedQuotient (a.toInt * 2 ^ 32) b.toInt := by
  obtain ⟨n, hn⟩ := Int.eq_ofNat_of_zero_le ha
  obtain ⟨d, hd⟩ := Int.eq_ofNat_of_zero_le hb.le
  have hhalf : (n * 2 ^ 33 / d + 1) / 2 = (2 * (n * 2 ^ 32) + d) / (2 * d) := calc
    (n * 2 ^ 33 / d + 1) / 2 = (n * 2 ^ 33 + d) / d / 2 := by rw [Nat.add_div_right _ (by omega)]
    _ = (2 * (n * 2 ^ 32) + d) / (2 * d) := by rw [Nat.div_div_eq_div_mul, mul_comm d]; ring_nf
  rw [quotient_eq_ite, hn, hd, if_pos (by omega), Int.natAbs_natCast, Int.natAbs_natCast, hhalf, roundedQuotient]
  push_cast
  rfl

theorem div_wrap64 {x y : Int} (hx : 0 ≤ x) (hx' : x < 2 ^ 63) (hy : 0 < y) (hy' : y < 2 ^ 63)
    (h0 : 0 ≤ roundedQuotient (x * 2 ^ 32) y) (h : roundedQuotient (x * 2 ^ 32) y < 2 ^ 63) :
    div (wrap64 x) (wrap64 y) = .ok (wrap64 (roundedQuotient (x * 2 ^ 32) y)) := by
  have hxw := toInt_wrap64_of_nonneg hx hx'
  have hyw := toInt_wrap64_of_nonneg hy.le hy'
  rw [div_of_ne _ (ne_zero_of_toInt_pos (by omega)), quotient_eq_roundedQuotient (by omega) (by omega), hxw, hyw,
    sat64_eq_wrap64 (by omega) (by omega)]

/-! ## The loop runs through the integer series -/

/-- The loop of rule R177 after `i` passes, with `m` passes left. -/
def atanLoop (zSq : Int) (m i : Nat) : Except Cause Scalar :=
  atanSeries (wrap64 (zSq * 2)) (wrap64 ((zSq + 2 ^ 32) * 2)) m (wrap64 (atanTerm zSq i)) (wrap64 (atanSum zSq i))
    (wrap64 (atanDividend zSq i)) (wrap64 (atanDivisor zSq i))

theorem atanDividend_divisor_lt {zSq : Int} (h1 : zSq ≤ 2 ^ 32) {i : Nat} (hi : i ≤ 28) :
    atanDividend zSq i < 2 ^ 40 ∧ atanDivisor zSq i < 2 ^ 40 := by
  have hprod : zSq * i ≤ 2 ^ 32 * 28 := mul_le_mul h1 (by omega) (by positivity) (by norm_num)
  rw [atanDividend, atanDivisor]
  constructor <;> linarith

/-- Before the first pass. -/
theorem atanLoop_zero (zSq : Int) (m : Nat) :
    atanLoop zSq m 0 = atanSeries (wrap64 (zSq * 2)) (wrap64 ((zSq + 2 ^ 32) * 2)) m constOne constOne
      (wrap64 (zSq * 2)) (wrap64 ((zSq + 2 ^ 32) * 3)) := by
  have hone : wrap64 (2 ^ 32) = constOne := by decide
  have hdividend : atanDividend zSq 0 = zSq * 2 := by simp [atanDividend]
  have hdivisor : atanDivisor zSq 0 = (zSq + 2 ^ 32) * 3 := by simp [atanDivisor]
  rw [atanLoop, atanTerm, atanSum, hdividend, hdivisor, hone]

section Loop

variable {zSq : Int} (h0 : 0 ≤ zSq) (h1 : zSq ≤ 2 ^ 32)

include h0 h1

theorem atanLoop_succ {i : Nat} (hi : i < 28) (m : Nat) :
    atanLoop zSq (m + 1) i =
      if atanTerm zSq (i + 1) = 0 then .ok (wrap64 (atanSum zSq (i + 1))) else atanLoop zSq m (i + 1) := by
  have hdividend := atanDividend_nonneg h0 i
  have hdivisor := atanDivisor_pos h0 i
  have hnow := atanDividend_divisor_lt h1 hi.le
  have hnext := atanDividend_divisor_lt h1 hi
  obtain ⟨hratio, hratio'⟩ := atanRatio_range h0 i
  obtain ⟨hterm, hterm'⟩ := atanTerm_range h0 i
  obtain ⟨hnew, hnew'⟩ := atanTerm_range h0 (i + 1)
  obtain ⟨hsum, hsum'⟩ := atanSum_range h0 i
  have hdiv : div (wrap64 (atanDividend zSq i)) (wrap64 (atanDivisor zSq i)) = .ok (wrap64 (atanRatio zSq i)) :=
    div_wrap64 hdividend (by omega) hdivisor (by omega) hratio (hratio'.trans_lt (by norm_num))
  have hmul : mul (wrap64 (atanTerm zSq i)) (wrap64 (atanRatio zSq i)) = wrap64 (atanTerm zSq (i + 1)) :=
    mul_wrap64 hterm (by omega) hratio (by omega)
      ((mul_le_mul hterm' hratio' hratio (by norm_num)).trans_lt (by norm_num))
  have hzero : wrap64 (atanTerm zSq (i + 1)) = 0#64 ↔ atanTerm zSq (i + 1) = 0 := by
    rw [← BitVec.toInt_inj, toInt_wrap64_of_nonneg hnew (by omega), BitVec.toInt_zero]
  rw [atanDividend_succ, atanDivisor_succ] at hnext
  rw [atanLoop, atanSeries, bind_of_ok hdiv]
  simp only [hmul, hzero, add_wrap64 hsum hnew (by omega),
    add_wrap64 hdividend (show 0 ≤ zSq * 2 by omega) (by omega),
    add_wrap64 hdivisor.le (show 0 ≤ (zSq + 2 ^ 32) * 2 by omega) (by omega)]
  rw [atanLoop, atanDividend_succ, atanDivisor_succ, atanSum]
  rfl

/-- The loop ends at the first zero term, or with the last pass. -/
theorem atanLoop_ends (m : Nat) : ∀ {k : Nat}, k + m = 28 → atanTerm zSq k ≠ 0 →
    ∃ n ≤ 28, (n = 28 ∨ atanTerm zSq n = 0) ∧ (∀ i, k ≤ i → i < n → atanTerm zSq i ≠ 0) ∧
      atanLoop zSq m k = .ok (wrap64 (atanSum zSq n)) := by
  induction m with
  | zero => exact fun {k} hk _ => ⟨k, by omega, .inl hk, fun i _ _ => by omega, rfl⟩
  | succ m ih =>
    intro k hk hne
    rw [atanLoop_succ h0 h1 (by omega)]
    split_ifs with hzero
    · refine ⟨k + 1, by omega, .inr hzero, fun i hki hi => ?_, rfl⟩
      obtain rfl : i = k := by omega
      exact hne
    · obtain ⟨n, hn, hend, hterms, hrun⟩ := ih (k := k + 1) (by omega) hzero
      refine ⟨n, hn, hend, fun i hki hi => ?_, hrun⟩
      obtain rfl | hlt := hki.eq_or_lt
      · exact hne
      · exact hterms i hlt hi

end Loop

theorem wrap64_toInt (a : Scalar) : wrap64 a.toInt = a := BitVec.ofInt_toInt

/-- The product with a small whole number is exact. -/
theorem mul_wrap64_whole {x n : Int} (hx : 0 ≤ x ∧ x ≤ 2 ^ 33) (hn : 0 ≤ n ∧ n ≤ 3) :
    mul (wrap64 x) (wrap64 (n * 2 ^ 32)) = wrap64 (x * n) := by
  obtain ⟨hx, hx'⟩ := hx
  obtain ⟨hn, hn'⟩ := hn
  have hprod : x * n ≤ 2 ^ 33 * 3 := mul_le_mul hx' hn' hn (by norm_num)
  rw [mul_wrap64 hx (by omega) (by omega) (by omega) (by linarith), ← mul_assoc, Int.mul_ediv_cancel _ (by norm_num)]

section Unit

variable {z : Scalar} (hz : InUnit z)

include hz

theorem square_range : 0 ≤ z.toInt * z.toInt / 2 ^ 32 ∧ z.toInt * z.toInt / 2 ^ 32 ≤ 2 ^ 32 := by
  obtain ⟨hz0, hz1⟩ := hz
  exact ⟨Int.ediv_nonneg (mul_nonneg hz0 hz0) (by norm_num),
    Int.ediv_le_of_le_mul (by norm_num) (mul_le_mul hz1 hz1 hz0 (by norm_num))⟩

/-- Rule R177's preparation of the loop, and the loop from its first pass. -/
theorem atanUnit_eq_bind (p : Config) :
    atanUnit p z = atanLoop (z.toInt * z.toInt / 2 ^ 32) atanMaxIter 0 >>= fun s =>
      div (mul (mul s z) p.rad2Deg) (wrap64 (z.toInt * z.toInt / 2 ^ 32 + 2 ^ 32)) := by
  obtain ⟨h0, h1⟩ := square_range hz
  have hsq : mul z z = wrap64 (z.toInt * z.toInt / 2 ^ 32) := by
    rw [mul, product, sat64_eq_wrap64 (by omega) (by omega)]
  generalize z.toInt * z.toInt / 2 ^ 32 = zSq at h0 h1 hsq ⊢
  have hone : constOne = wrap64 (2 ^ 32) := by decide
  have htwo : constTwo = wrap64 (2 * 2 ^ 32) := by decide
  have hthree : constThree = wrap64 (3 * 2 ^ 32) := by decide
  have hsqP1 : add (wrap64 zSq) constOne = wrap64 (zSq + 2 ^ 32) := by
    rw [hone, add_wrap64 h0 (by norm_num) (by omega)]
  rw [atanUnit]
  simp only [hsq, hsqP1, htwo, hthree, mul_wrap64_whole (x := zSq) (n := 2) (by omega) (by norm_num),
    mul_wrap64_whole (x := zSq + 2 ^ 32) (n := 2) (by omega) (by norm_num),
    mul_wrap64_whole (x := zSq + 2 ^ 32) (n := 3) (by omega) (by norm_num), ← atanLoop_zero]

/-- The three operations in degrees do not saturate, `Rad2Deg` at its default. -/
theorem div_atanDegrees {n : Nat} (hn : n ≤ 28) {zSq : Int} (h0 : 0 ≤ zSq) (h1 : zSq ≤ 2 ^ 32) :
    ∃ v, div (mul (mul (wrap64 (atanSum zSq n)) z) config.rad2Deg) (wrap64 (zSq + 2 ^ 32)) = .ok v ∧
      v.toInt = atanDegrees 246083499207 z.toInt zSq (atanSum zSq n) := by
  obtain ⟨hz0, hz1⟩ := hz
  obtain ⟨hs0, hs1⟩ := atanSum_range h0 n
  have hprod0 : 0 ≤ atanSum zSq n * z.toInt := mul_nonneg hs0 hz0
  have hprod1 : atanSum zSq n * z.toInt ≤ 29 * 2 ^ 32 * 2 ^ 32 := mul_le_mul (by omega) hz1 hz0 (by norm_num)
  have hrad : config.rad2Deg = wrap64 246083499207 := by decide
  have hmul := mul_wrap64 hs0 (by omega) hz0 (by omega) (by omega)
  rw [wrap64_toInt] at hmul
  have hnum0 : 0 ≤ atanSum zSq n * z.toInt / 2 ^ 32 * 246083499207 / 2 ^ 32 := by omega
  have hnum1 : atanSum zSq n * z.toInt / 2 ^ 32 * 246083499207 / 2 ^ 32 < 2 ^ 62 := by omega
  rw [hmul, hrad, mul_wrap64 (by omega) (by omega) (by norm_num) (by norm_num) (by omega)]
  obtain ⟨hq0, hq1⟩ := roundedQuotient_nonneg_le (b := zSq + 2 ^ 32) (a := _ * 2 ^ 32) (by omega) (by omega)
    (mul_le_mul_of_nonneg_left (show (2 ^ 32 : Int) ≤ zSq + 2 ^ 32 by omega) hnum0)
  exact ⟨_, div_wrap64 hnum0 (by omega) (by omega) (by omega) hq0 (by omega), toInt_wrap64_of_nonneg hq0 (by omega)⟩

/-- Rule R177 from 0 to `One`, `Rad2Deg` at its default. -/
theorem atanUnit_isAtanUnit : ∃ v, atanUnit config z = .ok v ∧ IsAtanUnit 246083499207 z.toInt v.toInt := by
  obtain ⟨h0, h1⟩ := square_range hz
  obtain ⟨n, hn, hend, hne, hrun⟩ := atanLoop_ends h0 h1 28 (k := 0) rfl (by norm_num [atanTerm])
  obtain ⟨v, hv, hdegrees⟩ := div_atanDegrees hz hn h0 h1
  refine ⟨v, ?_, hdegrees ▸ isAtanUnit_atanDegrees _ _ hn hend fun i hi => hne i i.zero_le hi⟩
  rw [atanUnit_eq_bind hz, atanMaxIter, bind_of_ok hrun, hv]

end Unit

/-! ## Sign and inversion -/

theorem atan_completes (p : Config) (z : Scalar) : ∃ v, atan p z = .ok v := by
  cases h : atan p z with
  | ok v => exact ⟨v, rfl⟩
  | error c => exact absurd (raisesOnly_atan (cs := []) p z c h) List.not_mem_nil

theorem atan_of_pos (p : Config) {z : Scalar} (h : 0 < z.toInt) : atan p z = atanPos p z := by
  rw [atan, if_neg (ne_zero_of_toInt_pos h), if_neg (by omega)]

theorem atan_of_unit (p : Config) {z : Scalar} (h : 0 < z.toInt) (h' : z.toInt ≤ 2 ^ 32) : atan p z = atanUnit p z := by
  rw [atan_of_pos p h, atanPos, if_neg (by rw [toInt_constOne]; omega)]

theorem atan_of_neg (p : Config) {z : Scalar} (h : z.toInt < 0) :
    ∃ r, atan p (neg z) = .ok r ∧ atan p z = .ok (neg r) := by
  have hpos : 0 < (neg z).toInt := le_toInt_sat64 (m := 1) (by omega) (by norm_num)
  obtain ⟨r, hr⟩ := atan_completes p (neg z)
  refine ⟨r, hr, ?_⟩
  rw [atan, if_neg (ne_of_toInt_lt h), if_pos h, ← atan_of_pos p hpos, bind_of_ok hr]
  rfl

theorem toInt_neg_of_pos {z : Scalar} (h : 0 < z.toInt) : (-z).toInt = -z.toInt := by
  have hrange := scalar_range z
  rw [BitVec.toInt_neg, Int.bmod_eq_of_le] <;> norm_num <;> omega

theorem atan_neg_of_pos (p : Config) {z : Scalar} (h : 0 < z.toInt) :
    ∃ r, atan p z = .ok r ∧ atan p (-z) = .ok (neg r) := by
  have hneg := toInt_neg_of_pos h
  have hrange := scalar_range z
  have hz : neg (-z) = z := by
    rw [neg, hneg, neg_neg, sat64_eq_wrap64 hrange.1 hrange.2, wrap64_toInt]
  have hatan := atan_of_neg p (z := -z) (by omega)
  rwa [hz] at hatan

/-- Rule R177's reciprocal: of a scalar above `One` it is positive and at most `One`. -/
theorem div_one_of_gt_one {z : Scalar} (h : 2 ^ 32 < z.toInt) :
    ∃ q, div constOne z = .ok q ∧ 0 < q.toInt ∧ q.toInt ≤ 2 ^ 32 := by
  have hrange := scalar_range z
  have hunit := quotient_inUnit (a := constOne) (b := z) (by unfold InUnit; decide) h.le
  refine ⟨_, div_of_ne _ (ne_zero_of_toInt_pos (by omega)), ?_, hunit.2⟩
  have hpos : 1 ≤ quotient constOne z := by
    rw [quotient_eq_roundedQuotient (by decide) (by omega), toInt_constOne, roundedQuotient,
      Int.le_ediv_iff_mul_le (by omega)]
    omega
  exact le_toInt_sat64 (m := 1) hpos (by norm_num)

theorem atan_of_gt_one (p : Config) {z : Scalar} (h : 2 ^ 32 < z.toInt) :
    ∃ q r, div constOne z = .ok q ∧ 0 < q.toInt ∧ q.toInt ≤ 2 ^ 32 ∧ atan p q = .ok r ∧
      atan p z = .ok (sub constQuarterRot r) := by
  obtain ⟨q, hq, hpos, hle⟩ := div_one_of_gt_one h
  obtain ⟨r, hr⟩ := atan_completes p q
  refine ⟨q, r, hq, hpos, hle, hr, ?_⟩
  rw [atan_of_unit p hpos hle] at hr
  rw [atan_of_pos p (by omega), atanPos, if_pos (by rw [toInt_constOne]; exact h), bind_of_ok hq, bind_of_ok hr]
  rfl

theorem atan_zero (p : Config) : atan p 0#64 = .ok 0#64 := rfl

end Fix

/-- Settles O50: in `(0, One]` no step of the loop saturates, so the words run through the integer sequences. -/
theorem arctangentSignAndInversion : Obligations.ArctangentSignAndInversion := by
  refine ⟨fun s rd ra => ?_, fun p z => Fix.atan_of_neg p, fun p => Fix.atan_of_neg p (z := constMinValue) (by decide),
    fun p z => Fix.atan_neg_of_pos p, fun p z => Fix.atan_of_gt_one p⟩
  obtain ⟨v, hv⟩ := Fix.atan_completes config (s.getF ra)
  refine ⟨v, hv, writesScalarBy_of_finish rfl hv, fun h => ?_, fun h h' => ?_⟩
  · rw [h, Fix.atan_zero] at hv
    exact (Except.ok.inj hv).symm
  · obtain ⟨w, hw, hunit⟩ := Fix.atanUnit_isAtanUnit ⟨h.le, h'⟩
    obtain rfl : w = v := Except.ok.inj (hw.symm.trans ((Fix.atan_of_unit config h h').symm.trans hv))
    exact hunit

/-! ## The arccosine (rule R178) -/

namespace Fix

theorem toInt_constMinusOne : constMinusOne.toInt = -2 ^ 32 := by decide

theorem acos_of_outside (p : Config) {x : Scalar} (h : x.toInt < -2 ^ 32 ∨ 2 ^ 32 < x.toInt) :
    acos p x = .error .domainError := by
  have hdomain : x.toInt < constMinusOne.toInt ∨ x.toInt > constOne.toInt := by
    rwa [toInt_constMinusOne, toInt_constOne]
  rw [acos, if_pos hdomain]

/-- Rule R178 on its domain but for 0: the root is of a nonnegative number, and the divisor is not 0. -/
theorem acos_of_inside (p : Config) {x : Scalar} (hlo : -2 ^ 32 ≤ x.toInt) (hhi : x.toInt ≤ 2 ^ 32) (hx : x ≠ 0#64) :
    ∃ t q r, sqrt (sub constOne (mul x x)) = .ok t ∧ div t x = .ok q ∧ atan p q = .ok r ∧
      acos p x = .ok (if x.toInt < 0 then add r constHalfRot else r) := by
  have hsq : x.toInt * x.toInt ≤ 2 ^ 32 * 2 ^ 32 := by nlinarith
  have hmul : (mul x x).toInt ≤ 2 ^ 32 := by
    have hprod : product x x ≤ 2 ^ 32 := Int.ediv_le_of_le_mul (by norm_num) hsq
    rw [mul, toInt_sat64]
    split_ifs <;> omega
  have hroot : 0 ≤ (sub constOne (mul x x)).toInt :=
    le_toInt_sat64 (by rw [toInt_constOne]; omega) (by norm_num)
  obtain ⟨t, ht⟩ : ∃ t, sqrt (sub constOne (mul x x)) = .ok t := ⟨_, sqrt_of_nonneg hroot⟩
  obtain ⟨q, hq⟩ : ∃ q, div t x = .ok q := ⟨_, div_of_ne t hx⟩
  obtain ⟨r, hr⟩ := atan_completes p q
  refine ⟨t, q, r, ht, hq, hr, ?_⟩
  have hdomain : ¬ (x.toInt < constMinusOne.toInt ∨ x.toInt > constOne.toInt) := by
    rw [toInt_constMinusOne, toInt_constOne]
    omega
  rw [acos, if_neg hdomain, if_neg hx, bind_of_ok ht, bind_of_ok hq, bind_of_ok hr]
  rfl

theorem acos_zero (p : Config) : acos p 0#64 = .ok constQuarterRot := rfl

theorem sqrt_zero : sqrt 0#64 = .ok 0#64 := by
  rw [sqrt_of_nonneg (by decide)]
  simp [nearestRoot, wrap64]

theorem zero_div {x : Scalar} (hx : x ≠ 0#64) : div 0#64 x = .ok 0#64 := by
  have hzero : quotient 0#64 x = 0 := by simp [quotient]
  rw [div_of_ne _ hx, hzero]
  rfl

/-- At the two ends of the domain the root is 0, and so is the arctangent. -/
theorem acos_of_mul_self (p : Config) {x : Scalar} (hlo : -2 ^ 32 ≤ x.toInt) (hhi : x.toInt ≤ 2 ^ 32) (hx : x ≠ 0#64)
    (hsq : mul x x = constOne) : acos p x = .ok (if x.toInt < 0 then constHalfRot else 0#64) := by
  obtain ⟨t, q, r, ht, hq, hr, hacos⟩ := acos_of_inside p hlo hhi hx
  have hroot : sub constOne constOne = 0#64 := by decide
  have hhalf : add 0#64 constHalfRot = constHalfRot := by decide
  rw [hsq, hroot, sqrt_zero] at ht
  obtain rfl := Except.ok.inj ht
  obtain rfl := Except.ok.inj ((zero_div hx).symm.trans hq)
  obtain rfl := Except.ok.inj ((atan_zero p).symm.trans hr)
  rw [hacos, hhalf]

theorem acos_minusOne (p : Config) : acos p constMinusOne = .ok constHalfRot :=
  acos_of_mul_self p (by decide) (by decide) (by decide) (by decide)

theorem acos_one (p : Config) : acos p constOne = .ok 0#64 :=
  acos_of_mul_self p (by decide) (by decide) (by decide) (by decide)

end Fix

/-- Settles O51: inside the domain no step raises. -/
theorem arccosineDomainAndValue : Obligations.ArccosineDomainAndValue := by
  refine fun s rd ra => ⟨fun h => raises_of_finish rfl (Fix.acos_of_outside config h),
    fun h => writesScalarBy_of_finish rfl (h ▸ Fix.acos_zero config),
    fun h => writesScalarBy_of_finish rfl (h ▸ Fix.acos_minusOne config),
    fun h => writesScalarBy_of_finish rfl (h ▸ Fix.acos_one config), fun hlo hhi hx => ?_⟩
  obtain ⟨t, q, r, ht, hq, hr, hacos⟩ := Fix.acos_of_inside config hlo hhi hx
  exact ⟨t, q, r, ht, hq, hr, writesScalarBy_of_finish rfl hacos⟩

/-! ## The arctangent of two arguments (rule R179) -/

namespace Fix

theorem atan2_of_zero (p : Config) (y : Scalar) {x : Scalar} (hx : x = 0#64) :
    atan2 p y x = .ok (if 0 < y.toInt then 0x0000005A00000000#64
      else if y.toInt < 0 then 0xFFFFFFA600000000#64 else 0#64) := if_pos hx

theorem atan2_of_ne (p : Config) (y : Scalar) {x : Scalar} (hx : x ≠ 0#64) :
    ∃ q a, div y x = .ok q ∧ atan p q = .ok a ∧
      atan2 p y x = .ok (if x.toInt < 0
        then (if 0 ≤ y.toInt then add a constHalfRot else sub a constHalfRot) else a) := by
  obtain ⟨a, ha⟩ := atan_completes p (sat64 (quotient y x))
  refine ⟨_, a, div_of_ne _ hx, ha, ?_⟩
  rw [atan2, if_neg hx, bind_of_ok (div_of_ne y hx), bind_of_ok ha]
  rfl

end Fix

/-- Settles O52: a nonzero `x` divides every `y`, and the arctangent completes on every quotient. -/
theorem twoArgumentArctangent : Obligations.TwoArgumentArctangent := by
  refine fun s rd ra rb => ⟨fun h => writesScalarBy_of_finish rfl (Fix.atan2_of_zero config _ h), fun hx => ?_⟩
  obtain ⟨q, a, hq, ha, hatan2⟩ := Fix.atan2_of_ne config (s.getF ra) hx
  exact ⟨q, a, hq, ha, writesScalarBy_of_finish rfl hatan2⟩

end Sys2Proof.Machine
end

section
/-! The interval commands (rules R200 to R220): obligations O53 to O59. -/

namespace Sys2Proof.Machine

/-! ## Containment -/

/-- An interval holds some scalar exactly when its bounds are in order: then it holds its lower bound. -/
theorem exists_within_iff (a : Interval) : (∃ v, Within v a) ↔ Ordered a :=
  ⟨fun ⟨_, hlo, hhi⟩ => hlo.trans hhi, fun h => ⟨a.lo, le_rfl, h⟩⟩

/-- An ordered interval lies in another exactly when its two bounds do. -/
theorem forall_within_imp_iff {a : Interval} (h : Ordered a) (c : Interval) :
    (∀ v, Within v a → Within v c) ↔ c.lo.toInt ≤ a.lo.toInt ∧ a.hi.toInt ≤ c.hi.toInt :=
  ⟨fun hc => ⟨(hc a.lo ⟨le_rfl, h⟩).1, (hc a.hi ⟨h, le_rfl⟩).2⟩,
    fun ⟨hlo, hhi⟩ _ ⟨hvlo, hvhi⟩ => ⟨hlo.trans hvlo, hvhi.trans hhi⟩⟩

namespace Fix

/-! ## Minimum, maximum and order (rule R201) -/

@[simp] theorem toInt_min (u v : Scalar) : (min u v).toInt = Min.min u.toInt v.toInt := by
  rw [min, apply_ite BitVec.toInt, min_def]

@[simp] theorem toInt_max (u v : Scalar) : (max u v).toInt = Max.max u.toInt v.toInt := by
  rw [max, apply_ite BitVec.toInt, max_def']

theorem sort_of_le {u v : Scalar} (h : u.toInt ≤ v.toInt) : sort u v = ⟨u, v⟩ := if_pos h

theorem sort_of_lt {u v : Scalar} (h : v.toInt < u.toInt) : sort u v = ⟨v, u⟩ := if_neg h.not_ge

theorem sort_comm (u v : Scalar) : sort u v = sort v u := by
  obtain h | rfl | h := toInt_trichotomy u v
  · rw [sort_of_le h.le, sort_of_lt h]
  · rfl
  · rw [sort_of_lt h, sort_of_le h.le]

theorem isSorted_sort (u v : Scalar) : IsSorted u v (sort u v).lo (sort u v).hi := by
  obtain h | h := le_or_gt u.toInt v.toInt
  · rw [sort_of_le h]
    exact ⟨h, .inl ⟨rfl, rfl⟩⟩
  · rw [sort_of_lt h]
    exact ⟨h.le, .inr ⟨rfl, rfl⟩⟩

/-! ## The tests (rules R204, R205, R209) -/

theorem overlapsValue_iff (a : Interval) (v : Scalar) : overlapsValue a v = true ↔ Within v a := by
  simp [overlapsValue, truthLe, Within]

theorem overlaps_iff (a b : Interval) :
    overlaps a b = true ↔ a.lo.toInt ≤ b.hi.toInt ∧ b.lo.toInt ≤ a.hi.toInt := by
  simp [overlaps, truthLe]

theorem overlaps_comm (a b : Interval) : overlaps a b = overlaps b a := Bool.and_comm ..

theorem intervalEq_iff (a b : Interval) : intervalEq a b = true ↔ a = b := by
  obtain ⟨alo, ahi⟩ := a
  obtain ⟨blo, bhi⟩ := b
  simp [intervalEq, truthEq]

/-! ## The common part (rule R206) -/

/-- The greatest lower and the least upper bound of two intervals. -/
def commonPart (a b : Interval) : Interval := ⟨max a.lo b.lo, min a.hi b.hi⟩

theorem within_commonPart_iff (v : Scalar) (a b : Interval) :
    Within v (commonPart a b) ↔ Within v a ∧ Within v b := by
  simp only [Within, commonPart, toInt_max, toInt_min, max_le_iff, le_min_iff]
  exact and_and_and_comm

theorem exists_within_both_iff (a b : Interval) :
    (∃ v, Within v a ∧ Within v b) ↔ Ordered (commonPart a b) := by
  simp only [← within_commonPart_iff, exists_within_iff]

/-- For two ordered intervals the bounds that `IOVL` does not compare are in order already. -/
theorem ordered_commonPart_iff {a b : Interval} (ha : Ordered a) (hb : Ordered b) :
    Ordered (commonPart a b) ↔ overlaps a b = true := by
  unfold Ordered at ha hb
  rw [overlaps_iff, Ordered, commonPart, toInt_max, toInt_min]
  omega

theorem intersection_of_ordered {a b : Interval} (h : Ordered (commonPart a b)) :
    intersection a b = (true, commonPart a b) := if_neg h.not_gt

theorem intersection_of_not_ordered {a b : Interval} (h : ¬ Ordered (commonPart a b)) :
    intersection a b = (false, ⟨0#64, 0#64⟩) := if_pos (not_le.1 h)

/-! ## The hull (rule R207) -/

/-- The least lower and the greatest upper bound of two intervals. -/
def hull (a b : Interval) : Interval := ⟨min a.lo b.lo, max a.hi b.hi⟩

theorem union_false (a b : Interval) : union false a b = hull a b := rfl

theorem union_true (a b : Interval) : union true a b = ⟨(hull a b).hi, (hull a b).lo⟩ := rfl

theorem ordered_hull {a b : Interval} (ha : Ordered a) (hb : Ordered b) : Ordered (hull a b) := by
  unfold Ordered at ha hb
  rw [Ordered, hull, toInt_min, toInt_max]
  omega

/-- An interval contains the hull exactly when it contains both intervals. -/
theorem forall_within_hull_iff {a b : Interval} (ha : Ordered a) (hb : Ordered b) (c : Interval) :
    (∀ v, Within v (hull a b) → Within v c) ↔ ∀ v, Within v a ∨ Within v b → Within v c := by
  rw [forall_within_imp_iff (ordered_hull ha hb), hull, toInt_min, toInt_max, le_min_iff, max_le_iff]
  simp only [or_imp, forall_and, forall_within_imp_iff ha, forall_within_imp_iff hb]
  exact and_and_and_comm

/-! ## The push-out (rule R208) -/

theorem toInt_abs (a : Scalar) : (abs a).toInt = clamp64 a.toInt.natAbs := toInt_sat64_eq_clamp64 _

theorem minTranslation_of_not_overlaps {x y : Interval} (h : ¬ overlaps x y = true) : minTranslation x y = 0#64 := if_neg h

/-- With an overlap the candidate of the smaller saturated magnitude is taken, the negative one on a tie. -/
theorem toInt_minTranslation {x y : Interval} (h : overlaps x y = true) :
    (minTranslation x y).toInt =
      if clamp64 (sub y.hi x.lo).toInt.natAbs < clamp64 (neg (sub x.hi y.lo)).toInt.natAbs
      then (sub y.hi x.lo).toInt else (neg (sub x.hi y.lo)).toInt := by
  simp only [minTranslation, if_pos h, toInt_abs]
  exact apply_ite BitVec.toInt ..

/-! ## Translation (rules R218, R219) -/

theorem toInt_add_le_toInt_add {a b : Scalar} (h : a.toInt ≤ b.toInt) (v : Scalar) :
    (add a v).toInt ≤ (add b v).toInt := by
  have hmono : Monotone clamp64 := monotone_const.max (monotone_const.min monotone_id)
  rw [add, add, toInt_sat64_eq_clamp64, toInt_sat64_eq_clamp64]
  exact hmono (Int.add_le_add_right h _)

end Fix

/-! ## How the interval commands end -/

/-- `writesPairBy_of_complete` for a pair given by its two bounds. -/
theorem writesPair_of_complete {i : Instr} {s : State} {pd : Pair} {lo hi : Scalar}
    (h : exec i s = complete (s.setP pd ⟨lo, hi⟩)) : WritesPair i s pd lo hi := writesPairBy_of_complete h

theorem writesPair_sorted_of_complete {i : Instr} {s : State} {pd : Pair} {u v : Scalar}
    (h : exec i s = complete (s.setP pd (Fix.sort u v))) : ∃ lo hi, WritesPair i s pd lo hi ∧ IsSorted u v lo hi :=
  ⟨_, _, writesPairBy_of_complete h, Fix.isSorted_sort u v⟩

theorem writesPairAndTruth_of_complete {i : Instr} {s : State} {pd : Pair} {v : Interval} {b : Bool}
    (h : exec i s = complete ((s.setP pd v).setT b)) : WritesPairAndTruth i s pd v.lo v.hi b :=
  ⟨_, ⟨h, rfl, rfl, rfl, rfl⟩, by simp, by simp, fun r hl hu => by simp [State.getF_setP_of_ne _ _ hl hu],
    rfl, rfl, rfl, rfl⟩

theorem writesPairBy_iunion (p : Config) (s : State) (pd ia ib : Pair) :
    WritesPairBy (execWith p) (.iunion pd ia ib) s pd
      (Fix.union p.unionInverted (s.getP ia) (s.getP ib)).lo (Fix.union p.unionInverted (s.getP ia) (s.getP ib)).hi :=
  writesPairBy_of_complete rfl

/-- Settles O53: sorting does not depend on the order of the operands. -/
theorem intervalConstruction : Obligations.IntervalConstruction := fun s pd ra rb =>
  ⟨writesPair_sorted_of_complete rfl,
    congrArg (fun v => complete (s.setP pd v)) (Fix.sort_comm (s.getF ra) (s.getF rb)),
    writesPair_of_complete rfl⟩

/-- Settles O54: `IOVL` compares two bounds crosswise, which tells whether the common part of ordered intervals is ordered. -/
theorem intervalQueries : Obligations.IntervalQueries := fun s ia ib _ =>
  ⟨⟨_, writesTruth_of_finish rfl, Fix.overlapsValue_iff _ _⟩,
    ⟨Fix.overlaps (s.getP ia) (s.getP ib), writesTruth_of_finish rfl,
      Fix.overlaps_comm (s.getP ib) (s.getP ia) ▸ writesTruth_of_finish rfl, Fix.overlaps_iff _ _,
      fun ha hb => (Fix.ordered_commonPart_iff ha hb).symm.trans (Fix.exists_within_both_iff _ _).symm⟩,
    ⟨_, writesTruth_of_finish rfl, Fix.intervalEq_iff _ _⟩⟩

/-- Settles O55: some scalar is in both exactly when the common part is ordered, which is what the command tests. -/
theorem intervalIntersection : Obligations.IntervalIntersection := by
  intro s pd ia ib
  have hwrites : WritesPairAndTruth (.iint pd ia ib) s pd _ _ _ := writesPairAndTruth_of_complete rfl
  have hexists := Fix.exists_within_both_iff (s.getP ia) (s.getP ib)
  refine ⟨_, _, _, hwrites, ?_⟩
  by_cases h : Ordered (Fix.commonPart (s.getP ia) (s.getP ib))
  · rw [Fix.intersection_of_ordered h]
    exact ⟨iff_of_true rfl (hexists.2 h), fun _ v => Fix.within_commonPart_iff v _ _, nofun⟩
  · rw [Fix.intersection_of_not_ordered h]
    exact ⟨iff_of_false nofun (mt hexists.1 h), nofun, fun _ => ⟨rfl, rfl⟩⟩

/-- Settles O56: `UNION_INVERTED` only swaps the two bounds, and an ordered interval lies in another when its bounds do. -/
theorem intervalUnionIsTheHull : Obligations.IntervalUnionIsTheHull := by
  refine fun s pd ia ib => ⟨(Fix.hull (s.getP ia) (s.getP ib)).lo, (Fix.hull (s.getP ia) (s.getP ib)).hi,
    Fix.toInt_min _ _, Fix.toInt_max _ _, writesPairBy_iunion config s pd ia ib,
    fun p hp => ?_, fun p hp => ?_, Fix.forall_within_hull_iff⟩
  · simpa only [hp, Fix.union_false] using writesPairBy_iunion p s pd ia ib
  · simpa only [hp, Fix.union_true] using writesPairBy_iunion p s pd ia ib

/-- Settles O57: both candidates and both magnitudes narrow by `sat64`, which is the clamp. -/
theorem minimumTranslation : Obligations.MinimumTranslation := by
  refine fun s rd ia ib => ⟨_, _, _, writesScalarBy_of_complete rfl, ?right, ?left,
    fun h => Fix.minTranslation_of_not_overlaps (mt (Fix.overlaps_iff _ _).1 h),
    fun hx hy => Fix.toInt_minTranslation ((Fix.overlaps_iff _ _).2 ⟨hx, hy⟩)⟩
  case right => exact toInt_sat64_eq_clamp64 _
  case left => rw [Fix.neg, Fix.sub, toInt_sat64_eq_clamp64, toInt_sat64_eq_clamp64]

/-- Settles O58: each of the five commands sorts the two bounds of its rule. -/
theorem checkedMutatorsSortTheBounds : Obligations.CheckedMutatorsSortTheBounds := fun _ _ _ _ =>
  ⟨_, _, toInt_sat64_eq_clamp64 _, toInt_sat64_eq_clamp64 _, writesPair_sorted_of_complete rfl,
    writesPair_sorted_of_complete rfl, writesPair_sorted_of_complete rfl, writesPair_sorted_of_complete rfl,
    writesPair_sorted_of_complete rfl⟩

/-- `ITRANS` sorts two sums that are in order already, saturating addition being monotonic (rules R218, R219). -/
theorem exec_itrans_eq_exec_itransu {s : State} {ia : Pair} (h : Ordered (s.getP ia)) (pd : Pair) (rb : Reg) :
    exec (.itrans pd ia rb) s = exec (.itransu pd ia rb) s :=
  congrArg (fun v => complete (s.setP pd v)) (Fix.sort_of_le (Fix.toInt_add_le_toInt_add h (s.getF rb)))

/-- Settles O59: each of the five commands writes the two bounds of its rule. -/
theorem uncheckedMutatorsTrustTheOrder : Obligations.UncheckedMutatorsTrustTheOrder := fun s pd ia rb =>
  ⟨fun h => exec_itrans_eq_exec_itransu h pd rb,
    Fix.add (s.getP ia).lo (s.getF rb), Fix.add (s.getP ia).hi (s.getF rb),
    toInt_sat64_eq_clamp64 _, toInt_sat64_eq_clamp64 _,
    writesPair_of_complete rfl, writesPair_of_complete rfl,
    writesPair_of_complete rfl, writesPair_of_complete rfl,
    writesPair_of_complete rfl⟩

end Sys2Proof.Machine
end

section
/-! The error latch (rules R241, R244, R245, R247, R248) and the idle unit (rule R255):
obligations O7, O11 and O13 to O16. -/

namespace Sys2Proof.Machine

/-! ## When a step raises -/

theorem Cause.code_injective : Function.Injective Cause.code := by
  intro c c' h
  revert h
  cases c <;> cases c' <;> decide

/-- No cause has the code of `BLOCKED` (rules R70, R240). -/
theorem Cause.code_ne_respBlocked (c : Cause) : c.code ≠ respBlocked := by
  cases c <;> decide

theorem answerBlocked_ne_raise (s : State) (c : Cause) : s.answerBlocked ≠ s.raise c := by
  intro h
  have hcode : respBlocked = c.code := congrArg Response.resp (List.cons.inj (congrArg State.responses h)).1
  exact c.code_ne_respBlocked hcode.symm

/-- Rule R71 answers `OK` or `BLOCKED`, or raises. -/
theorem runCommand_next {s t : State} (h : runCommand exec s = .next t) :
    t = s.answerBlocked ∨ (∃ d, t.responses = ⟨respOk, d⟩ :: s.responses) ∨ ∃ c, t = s.raise c := by
  obtain ⟨-, hrun⟩ | ⟨-, -, hrun⟩ | ⟨-, i, -, hrun⟩ := runCommand_cases exec s
  · exact .inl (Host.Outcome.next.inj (h.symm.trans hrun))
  · exact .inr (.inr ⟨_, Host.Outcome.next.inj (h.symm.trans hrun)⟩)
  · obtain ⟨u, d, hu, rfl⟩ | hraise := exec_next (hrun.symm.trans h)
    · exact .inr (.inl ⟨d, by rw [State.respond_responses, hu.responses_eq]⟩)
    · exact .inr (.inr hraise)

/-- Rule R244: an answer with the code of a cause is a raise of that cause. -/
theorem eq_raise_of_runCommand {s t : State} {k : Cause} {d : BitVec 64} (h : runCommand exec s = .next t)
    (hcode : t.responses = ⟨k.code, d⟩ :: s.responses) : t = s.raise k := by
  have hresp {r : Response} (hr : t.responses = r :: s.responses) : k.code = r.resp :=
    congrArg Response.resp (List.cons.inj (hcode.symm.trans hr)).1
  obtain rfl | ⟨d', hok⟩ | ⟨c, rfl⟩ := runCommand_next h
  · exact absurd (hresp rfl) k.code_ne_respBlocked
  · exact absurd (hresp hok) k.code_ne_respOk
  · rw [Cause.code_injective (hresp rfl)]

theorem eq_raise_of_step {s t : State} {c : Command} {rest : List HostAction} {k : Cause} {d : BitVec 64}
    (hp : s.pending = .issue c :: rest) (h : step s = .next t) (hcode : t.responses = ⟨k.code, d⟩ :: s.responses) :
    t = (s.running c rest).raise k :=
  eq_raise_of_runCommand ((step_of_issue hp).symm.trans h) hcode

/-- Settles O13: a step that answers a cause's code ends in `State.raise`. -/
theorem raiseRecordsOnlyTheLatch : Obligations.RaiseRecordsOnlyTheLatch := by
  intro s t c rest k d hp ht hcode
  rw [eq_raise_of_step hp ht hcode]
  exact raisedTo_raise _ _

/-- Settles O14: a command ends in `OK` or in a raise, and a raise of a well-formed command is one its row lists. -/
theorem onlyListedCommandsRaise : Obligations.OnlyListedCommandsRaise := by
  intro i s hi
  obtain ⟨t, ht⟩ : ∃ t, exec i s = .next t := execWith_config ▸ execWith_answers config i s
  refine ⟨t, ht, ?_⟩
  obtain ⟨u, d, hu, rfl⟩ | ⟨c, rfl⟩ := exec_next ht
  · exact .inl ⟨d, by rw [State.respond_responses, hu.responses_eq]⟩
  · exact .inr ⟨c, exec_raisesListed hi s c ht, raisedTo_raise s c⟩

/-! ## The same word raises again (rule R247) -/

/-- Only the ending that raises leaves the state of a raise. -/
theorem Ending.eq_raised_of_after {e : Ending} {s : State} {k : Cause} (h : e.after s = s.raise k) : e = .raised k := by
  cases e with
  | completed regs truth d => exact absurd h (respond_respOk_ne_raise _ s d k)
  | cleared => exact absurd h (respond_respOk_ne_raise _ s 0#64 k)
  | raised c => exact congrArg Ending.raised (s.raise_injective h)

/-- A command that raises, issued again with the same registers, raises the same cause: no raise rests on the status word,
since `RDSTAT`, the one command that reads it, never raises. -/
theorem exec_raise_congr {i : Instr} {s s' : State} {k : Cause} (hf : s'.f = s.f) (hissued : s'.issued = s.issued)
    (h : exec i s = .next (s.raise k)) : exec i s' = .next (s'.raise k) := by
  have hne : i ≠ .rdstat := by
    rintro rfl
    exact List.not_mem_nil (exec_raisesListed (i := .rdstat) rfl s k h)
  have hsrc : SameSources i s s' := ⟨fun r _ => State.getF_congr hf r, hissued, fun hi => absurd hi hne⟩
  obtain ⟨e, -, he, he'⟩ := exec_sameEnding hsrc
  obtain rfl : e = .raised k := Ending.eq_raised_of_after (Host.Outcome.next.inj (he.symm.trans h))
  exact he'

/-- The same for a word: one that raised was not blocked, and its decoding reads no state. -/
theorem runCommand_raise_congr {s s' : State} {k : Cause} (hf : s'.f = s.f) (hissued : s'.issued = s.issued)
    (hb : s'.blocks = false) (h : runCommand exec s = .next (s.raise k)) : runCommand exec s' = .next (s'.raise k) := by
  obtain ⟨-, hrun⟩ | ⟨-, hd, hrun⟩ | ⟨-, i, hd, hrun⟩ := runCommand_cases exec s
  · exact absurd (Host.Outcome.next.inj (hrun.symm.trans h)) (answerBlocked_ne_raise s k)
  · obtain rfl : Cause.illegalCommand = k := s.raise_injective (Host.Outcome.next.inj (hrun.symm.trans h))
    exact runCommand_of_illegal exec hb (hissued ▸ hd)
  · exact (runCommand_of_decode exec hb (hissued ▸ hd)).trans (exec_raise_congr hf hissued (hrun.symm.trans h))

/-- Rules R87, R247: the word `CLRERR`, latched or not, clears the latch and answers `OK`. -/
theorem step_of_clrerr {s : State} {wd : BitVec 64} {rest : List HostAction}
    (hp : s.pending = .issue ⟨0x09000000#32, wd⟩ :: rest) :
    step s = .next ((s.running ⟨0x09000000#32, wd⟩ rest).clearLatch.respond respOk 0#64) :=
  step_of_runsWhileLatched hp (.inr rfl) decode_clrerr

/-- Settles O15: the raise and `CLRERR` keep the registers, and `CLRERR` leaves the unit unblocked. -/
theorem reissueAfterClearRaisesTheSameCause : Obligations.ReissueAfterClearRaisesTheSameCause := by
  intro s t c wd rest k d hp ht hcode
  obtain rfl := eq_raise_of_step hp ht hcode
  have hraise : runCommand exec (s.running c _) = .next ((s.running c _).raise k) := (step_of_issue hp).symm.trans ht
  refine ⟨_, _, step_of_clrerr rfl, rfl, rfl, rfl, rfl, fun _ => rfl, ?_, raisedTo_raise _ k⟩
  exact (step_of_issue rfl).trans (runCommand_raise_congr (s := s.running c _) rfl rfl rfl hraise)

/-! ## The blocked state (rule R245) -/

/-- Settles O7: the two words run as they do unlatched, and the blocked answer changes nothing but the responses. -/
theorem latchedUnitAnswersBlocked : Obligations.LatchedUnitAnswersBlocked := by
  intro s c rest hp he
  refine ⟨fun hc => step_of_runsWhileLatched hp (.inl hc) (hc ▸ decode_rdstat),
    fun hc => step_of_runsWhileLatched hp (.inr hc) (hc ▸ decode_clrerr), fun hrd hclr => ?_⟩
  have hb : (s.running c rest).blocks = true := by
    rw [← Bool.not_eq_false, blocks_eq_false_iff]
    rintro (h | h | h)
    · exact Bool.false_ne_true (h.symm.trans he)
    · exact hrd h
    · exact hclr h
  exact ⟨_, (step_of_issue hp).trans (runCommand_of_blocks exec hb), rfl, fun _ => rfl, rfl, rfl, rfl, rfl, rfl⟩

/-- Rules R244, R245, R247: of all words only that of `CLRERR` takes `ERR` from 1 to 0. -/
theorem issued_eq_clrerr_of_unlatched {s t : State} (h : runCommand exec s = .next t) (he : s.fstat.err = true)
    (ht : t.fstat.err = false) : s.issued.cmd = 0x09000000#32 := by
  obtain ⟨-, hrun⟩ | ⟨-, -, hrun⟩ | ⟨-, i, hd, hrun⟩ := runCommand_cases exec s
  · obtain rfl := Host.Outcome.next.inj (hrun.symm.trans h)
    exact absurd (he.symm.trans ht) Bool.true_eq_false.mp
  · obtain rfl := Host.Outcome.next.inj (hrun.symm.trans h)
    exact absurd ht Bool.true_eq_false.mp
  · have hi : i = .clrerr := by
      by_contra hne
      obtain ⟨u, d, hu, rfl⟩ | ⟨c, rfl⟩ := exec_next (hrun.symm.trans h)
      · obtain ⟨herr, -, -⟩ := hu.latch_eq hne
        exact Bool.true_eq_false.mp (he.symm.trans (herr.symm.trans ht))
      · exact Bool.true_eq_false.mp ht
    obtain ⟨-, hword⟩ := encodeOfDecodeIsTheWord _ _ hd
    calc s.issued.cmd
      _ = encode i := hword.symm
      _ = encode .clrerr := by rw [hi]
      _ = 0x09000000#32 := by decide

/-- Settles O16: an idle step keeps `ERR`, and of the commands only `CLRERR` clears it. -/
theorem onlyClrerrOrResetUnblocks : Obligations.OnlyClrerrOrResetUnblocks := by
  intro s t he ht hclear
  obtain ⟨-, h⟩ | ⟨rest, hp, -⟩ | ⟨⟨w, wd⟩, rest, hp, -⟩ := step_cases s
  · obtain rfl := Host.Outcome.next.inj (h.symm.trans ht)
    exact absurd (he.symm.trans hclear) Bool.true_eq_false.mp
  · exact ⟨rest, .inl hp⟩
  · have hrun : runCommand exec (s.running ⟨w, wd⟩ rest) = .next t := (step_of_issue hp).symm.trans ht
    obtain rfl : w = 0x09000000#32 := issued_eq_clrerr_of_unlatched hrun he hclear
    exact ⟨rest, .inr ⟨wd, hp⟩⟩

/-! ## The idle unit (rule R255) -/

/-- Settles O11: with no action left the step takes none. -/
theorem idleUnitKeepsItsState : Obligations.IdleUnitKeepsItsState := by
  intro s hp
  rw [step, runNext, takeAction_nil hp]

end Sys2Proof.Machine
end
